-- ==== Sys2Proof/Word.lean ====
section
/-! DEFINITION. The widths of the SCU's data (00_scope.md R7, R8): bytes, 16-bit fields, 32-bit bus words, 8-bit bus offsets, and the 20-byte header. Bit 0 is the least significant bit (R8). -/

namespace Sys2Proof

/-- One header byte, or the flags byte (R7). -/
abbrev Byte := BitVec 8

/-- A 16-bit header field: port, window size, checksum, urgent pointer (R7, R10). -/
abbrev Half := BitVec 16

/-- A 32-bit register, bus word or command word (R7). -/
abbrev Word := BitVec 32

/-- An offset in the register bus space (R7, R50). -/
abbrev Offset := BitVec 8

/-- The 20-byte header in wire order: entry `i` is `H[i]`, byte 0 transmitted first (R8, R30). -/
abbrev Header := Vector Byte 20

end Sys2Proof
end

