-- ==== Sys2Proof/Syntax.lean ====
section
/-! DEFINITION. The SCU's command set: one constructor per row of spec/opcode_table.json (30_encoding.md R76). Commands take no operand fields (R75); their operands are fixed registers (R78). -/

namespace Sys2Proof

/-- The fourteen commands (R76). -/
inductive Instr where
  /-- NOP, 0x00 (R181). -/
  | nop
  /-- ENCODE, 0x01, `encodeHeader` (R102). -/
  | encode
  /-- STAMP, 0x02, `computeAndStampChecksum` (R133). -/
  | stamp
  /-- VERIFY, 0x03, `verifyChecksum` (R134). -/
  | verify
  /-- RECOVER, 0x04, `recoverOriginalLength` (R142). -/
  | recover
  /-- DECODE, 0x05, `decodeHeader` (R103). -/
  | decode
  /-- EXT_SEQ, 0x06, `extractSequenceNumber` (R104). -/
  | extSeq
  /-- EXT_ACK, 0x07, `extractAckNumber` (R105). -/
  | extAck
  /-- EXT_FLG, 0x08, `extractFlags` (R106). -/
  | extFlg
  /-- EXT_WIN, 0x09, `extractWindowSize` (R107). -/
  | extWin
  /-- SEQ_MOD, 0x10, position mod sequenceRange (R161). -/
  | seqMod
  /-- SEQ_INC, 0x11, modular increment (R162). -/
  | seqInc
  /-- SEQ_RANGE, 0x12, range from window (R163). -/
  | seqRange
  /-- SEQ_EQ, 0x13, acceptance compare (R164). -/
  | seqEq
  deriving DecidableEq, Repr

end Sys2Proof
end

