-- ==== Sys2Proof/WellFormed.lean ====
section
/-! DEFINITION. Well-formedness. A command has no operand fields (30_encoding.md R75), so every term of Instr is well-formed; what can be ill-formed is a command WORD, and the two checks on it are the spec's two tests for an illegal word (R77, R80). -/

namespace Sys2Proof

/-- Every command is well-formed: it carries no operand that could be out of range (R75, R78). -/
def Instr.wf : Instr → Bool
  | .nop => true
  | .encode => true
  | .stamp => true
  | .verify => true
  | .recover => true
  | .decode => true
  | .extSeq => true
  | .extAck => true
  | .extFlg => true
  | .extWin => true
  | .seqMod => true
  | .seqInc => true
  | .seqRange => true
  | .seqEq => true

/-- The reserved bits w[31:8] are zero (R75). -/
def wordReservedClear (w : Word) : Bool := w.toNat / 256 == 0

/-- OP = w[7:0] is not one of the unassigned opcodes 0x0A to 0x0F and 0x14 to 0xFF (R80). -/
def wordOpAssigned (w : Word) : Bool :=
  let op := w.toNat % 256
  !((0x0A ≤ op && op ≤ 0x0F) || (0x14 ≤ op && op ≤ 0xFF))

/-- A command word that is not illegal (R80). -/
def wordWf (w : Word) : Bool := wordReservedClear w && wordOpAssigned w

end Sys2Proof
end

