-- ==== Sys2Proof/Decode.lean ====
section
/-! DEFINITION. Decoding a command word (30_encoding.md R75 to R77, R80) and, after it, the encoder. Decoding is total on all 2^32 words and rejects by name. -/

namespace Sys2Proof

/-- Why a word is ILLEGAL (R77, R80). Both raise ILLEGAL_CMD when the word issues (R180). -/
inductive DecodeError where
  /-- Bits [31:8] are not all zero. -/
  | reservedBits
  /-- OP is not in the opcode map. -/
  | unassignedOp
  deriving DecidableEq, Repr

/-- The OP field w[7:0] (R75). -/
def opField (w : Word) : BitVec 8 := w.extractLsb' 0 8

/-- The RSV field w[31:8] (R75). -/
def rsvField (w : Word) : BitVec 24 := w.extractLsb' 8 24

/-- The opcode map read from OP to mnemonic (R76). -/
def instrOfOp (op : BitVec 8) : Option Instr :=
  match op.toNat with
  | 0x00 => some .nop
  | 0x01 => some .encode
  | 0x02 => some .stamp
  | 0x03 => some .verify
  | 0x04 => some .recover
  | 0x05 => some .decode
  | 0x06 => some .extSeq
  | 0x07 => some .extAck
  | 0x08 => some .extFlg
  | 0x09 => some .extWin
  | 0x10 => some .seqMod
  | 0x11 => some .seqInc
  | 0x12 => some .seqRange
  | 0x13 => some .seqEq
  | _ => none

/-- `Decode(w)` (R77): the reserved bits are tested first, then the opcode map. -/
def decodeWord (w : Word) : Except DecodeError Instr :=
  if rsvField w ≠ 0 then .error .reservedBits
  else
    match instrOfOp (opField w) with
    | some i => .ok i
    | none => .error .unassignedOp

/-- The opcode map read from mnemonic to OP (R76). -/
def opcodeOf : Instr → BitVec 8
  | .nop => 0x00
  | .encode => 0x01
  | .stamp => 0x02
  | .verify => 0x03
  | .recover => 0x04
  | .decode => 0x05
  | .extSeq => 0x06
  | .extAck => 0x07
  | .extFlg => 0x08
  | .extWin => 0x09
  | .seqMod => 0x10
  | .seqInc => 0x11
  | .seqRange => 0x12
  | .seqEq => 0x13

/-- The command word of an instruction: RSV zero above OP (R75, R81). -/
def encodeInstr (i : Instr) : Word := (0 : BitVec 24) ++ opcodeOf i

/-- What the decoder reads from an instruction whose bits are `w`, numbered as spec/opcode_table.json
numbers them. A command is one 32-bit word (R81) and the bus moves it whole, so it has no byte layout
of its own (R60, log entry 7); a number that does not fit 32 bits is no command word. -/
def decodeTableWord (nbits w : Nat) : Option Instr :=
  let v := w % 2 ^ nbits
  if v < 2 ^ 32 then
    match decodeWord (BitVec.ofNat 32 v) with
    | .ok i => some i
    | .error _ => none
  else none

end Sys2Proof
end

