-- ==== Sys2Proof/Config.lean ====
section
/-! DEFINITION. What is fixed for a given SCU: the constants of 00_scope.md R5 and the one open parameter MARKER (R6). -/

namespace Sys2Proof

/-- `MARKER`, the value pack writes at header byte 12. The spec leaves it open (R6, D11, N1), so it
has no body: every theorem of the model holds for every value. DESIGN CHOICE (an opaque constant
rather than an argument), safe: log entry 4. -/
opaque Config.marker : Byte

/-- `HDR_SIZE`, the header's size in bytes (R5). -/
def Config.hdrSize : Nat := 20

/-- `MSS`, the maximum total segment size in bytes, header included (R5). -/
def Config.mss : Nat := 576

/-- `MAX_PAYLOAD` = MSS - HDR_SIZE (R5). -/
def Config.maxPayload : Nat := 556

/-- `FLAG_ACK`, the flags byte of a data segment (R5, R72). -/
def Config.flagAck : Byte := 0x10

/-- `FLAG_ACK_FIN`, the flags byte of the final segment of a transfer (R5, R72). -/
def Config.flagAckFin : Byte := 0x11

/-- The urgent pointer value pack writes (R5, R73). -/
def Config.urgentPointer : Half := 0x0000

end Sys2Proof
end

