-- ==== Sys2Proof/Machine/State.lean ====
section
/-! DEFINITION. The SCU's state as plain data: the tuple of 10_state.md R21, the host's pending script and the values its reads returned; the two transactions of 20_memory.md R51; the reasons a step of the model can stop; the state right after power-on reset (R40, R230). -/

namespace Sys2Proof.Machine

/-- One host transaction (R51): the two things the host can do to the SCU. The types hold exactly the
spec's 8-bit offsets and 32-bit data. -/
inductive Transaction where
  /-- `BusWrite(off, d)` (R52). -/
  | write (off : Offset) (d : Word)
  /-- `BusRead(off)` (R53). -/
  | read (off : Offset)
  deriving DecidableEq, Repr

/-- Why the model stops where no next state exists. The SCU's own faults are NOT here: they are
recorded in STATUS.FAULT and the machine goes on (R200). -/
inductive Fault where
  /-- Raised by a step whose script has no further transaction: the run has ended (R240). The SCU
  takes a step only for a host transaction (R20). DESIGN CHOICE, safe: log entry 3. -/
  | scriptEnded
  deriving DecidableEq, Repr

/-- Why the model refuses an instruction. -/
inductive Refusal where
  /-- Raised only by an arm of exec that has no meaning yet, with its mnemonic; no arm is left in that
  condition. Safe: the model stops where the hardware goes on. -/
  | notModelled (mnemonic : String)
  deriving DecidableEq, Repr

/-- The complete SCU state (R21), flat, and two fields of the model's own. CTRL holds no state (R31);
STATUS is held as its four fields, its reserved bits hold nothing (R33, log entry 8). -/
@[ext]
structure State where
  /-- SRC, sourcePort (R22). -/
  src : Half
  /-- DST, destPort (R22). -/
  dst : Half
  /-- SEQ, sequenceNumber (R22). -/
  seq : Word
  /-- ACK, ackNumber (R22). -/
  ack : Word
  /-- FLG, flags (R22). -/
  flg : Byte
  /-- WIN, windowSize (R22). -/
  win : Half
  /-- LEN, the total segment length the host presents (R24). -/
  len : Word
  /-- BUFLEN, the size of the received buffer (R25). -/
  buflen : Word
  /-- PLEN, the payload length of the last RECOVER, two's complement (R26). -/
  plen : Word
  /-- A, operand of the sequence helpers (R27). -/
  a : Word
  /-- B, the position SEQ_EQ compares against (R27). -/
  b : Word
  /-- R, the sequenceRange modulus (R28). -/
  r : Word
  /-- Y, the result of the last SEQ_MOD or SEQ_INC (R29). -/
  y : Word
  /-- HDR, the header register file (R30). -/
  hdr : Header
  /-- CMD, the last command word written (R32). -/
  cmd : Word
  /-- STATUS.OK, written by VERIFY (R34). -/
  okFlag : Bool
  /-- STATUS.VALID, written by RECOVER (R35). -/
  validFlag : Bool
  /-- STATUS.EQ, written by SEQ_EQ (R36). -/
  eqFlag : Bool
  /-- STATUS.FAULT, the sticky 4-bit fault code (R37). -/
  fault : BitVec 4
  /-- The model's own: the transactions the host has still to issue, the next one first (R82, R240;
  log entry 1). -/
  script : List Transaction
  /-- The model's own: the values the run's reads have returned, oldest first (R240; log entry 2). -/
  observed : List Word
  deriving DecidableEq, Repr

/-- The machine right after power-on reset (R40, R230): every element zero; no transaction pending and
nothing observed yet (DESIGN CHOICE, safe: log entries 1 and 2). -/
def State.reset : State where
  src := 0x0000
  dst := 0x0000
  seq := 0x00000000
  ack := 0x00000000
  flg := 0x00
  win := 0x0000
  len := 0x00000000
  buflen := 0x00000000
  plen := 0x00000000
  a := 0x00000000
  b := 0x00000000
  r := 0x00000000
  y := 0x00000000
  hdr := Vector.replicate 20 0x00
  cmd := 0x00000000
  okFlag := false
  validFlag := false
  eqFlag := false
  fault := 0
  script := []
  observed := []

end Sys2Proof.Machine
end

