-- ==== Sys2Proof/Machine/Ops.lean ====
section
/-! DEFINITION. The named operations: the primitives of 00_scope.md R9 over header bytes and numbers, one setter per register, and the shared operations: the fault primitive (60_exceptions.md R203), the soft reset (70_reset_and_hazards.md R231) and the modulus test (42_seq_arith.md R160). Taking a fault saves nothing but the code and has no return (R206, R207), so raise and softReset are the whole of exception entry and its clearing. -/

namespace Sys2Proof.Machine

/-! ### Primitives of R9 -/

/-- `be16(H, o)`: unsigned 16-bit big-endian read. -/
def be16 (h : Header) (o : Nat) (ho : o + 1 < 20 := by omega) : Half :=
  h[o] ++ h[o + 1]

/-- `be32(H, o)`: unsigned 32-bit big-endian read. -/
def be32 (h : Header) (o : Nat) (ho : o + 3 < 20 := by omega) : Word :=
  h[o] ++ h[o + 1] ++ h[o + 2] ++ h[o + 3]

/-- `put16(H, o, v)`: the high byte at the lower offset. -/
def put16 (h : Header) (o : Nat) (v : Half) (ho : o + 1 < 20 := by omega) : Header :=
  (h.set o (v.extractLsb' 8 8)).set (o + 1) (v.extractLsb' 0 8)

/-- `put32(H, o, v)`: the highest byte at the lowest offset. -/
def put32 (h : Header) (o : Nat) (v : Word) (ho : o + 3 < 20 := by omega) : Header :=
  (((h.set o (v.extractLsb' 24 8)).set (o + 1) (v.extractLsb' 16 8)).set (o + 2)
    (v.extractLsb' 8 8)).set (o + 3) (v.extractLsb' 0 8)

/-- `put8`: one byte, `H[o] <- v`. -/
def put8 (h : Header) (o : Nat) (v : Byte) (ho : o < 20 := by omega) : Header :=
  h.set o v

/-- `trunc16(v)`: the low 16 bits of a number. -/
def trunc16 (v : Nat) : Half := BitVec.ofNat 16 v

/-- `not16(v) = 0xFFFF - v`: the bitwise complement of a 16-bit value. -/
def not16 (v : Half) : Half := BitVec.ofNat 16 (0xFFFF - v.toNat)

/-- `sext16(t)`: a 16-bit pattern read as two's complement (R10(b)). -/
def sext16 (t : Half) : Int :=
  if t.toNat < 2 ^ 15 then (t.toNat : Int) else (t.toNat : Int) - 2 ^ 16

/-- `zext_32(v)`: a value placed in a 32-bit register, upper bits zero. -/
def zext32 {n : Nat} (v : BitVec n) : Word := v.setWidth 32

/-! ### Setters: one per register or group of registers that is written together -/

/-- SRC <- v. -/
def State.setSrc (s : State) (v : Half) : State := { s with src := v }
/-- DST <- v. -/
def State.setDst (s : State) (v : Half) : State := { s with dst := v }
/-- SEQ <- v. -/
def State.setSeq (s : State) (v : Word) : State := { s with seq := v }
/-- ACK <- v. -/
def State.setAck (s : State) (v : Word) : State := { s with ack := v }
/-- FLG <- v. -/
def State.setFlg (s : State) (v : Byte) : State := { s with flg := v }
/-- WIN <- v. -/
def State.setWin (s : State) (v : Half) : State := { s with win := v }
/-- LEN <- v. -/
def State.setLen (s : State) (v : Word) : State := { s with len := v }
/-- BUFLEN <- v. -/
def State.setBuflen (s : State) (v : Word) : State := { s with buflen := v }
/-- PLEN <- v. -/
def State.setPlen (s : State) (v : Word) : State := { s with plen := v }
/-- A <- v. -/
def State.setA (s : State) (v : Word) : State := { s with a := v }
/-- B <- v. -/
def State.setB (s : State) (v : Word) : State := { s with b := v }
/-- R <- v. -/
def State.setR (s : State) (v : Word) : State := { s with r := v }
/-- Y <- v. -/
def State.setY (s : State) (v : Word) : State := { s with y := v }
/-- HDR[0..19] <- v. -/
def State.setHdr (s : State) (v : Header) : State := { s with hdr := v }
/-- CMD <- v. -/
def State.setCmd (s : State) (v : Word) : State := { s with cmd := v }
/-- STATUS.OK <- v. -/
def State.setOkFlag (s : State) (v : Bool) : State := { s with okFlag := v }
/-- STATUS.VALID <- v. -/
def State.setValidFlag (s : State) (v : Bool) : State := { s with validFlag := v }
/-- STATUS.EQ <- v. -/
def State.setEqFlag (s : State) (v : Bool) : State := { s with eqFlag := v }
/-- STATUS.FAULT <- v. -/
def State.setFault (s : State) (v : BitVec 4) : State := { s with fault := v }
/-- The host's remaining script. -/
def State.setScript (s : State) (v : List Transaction) : State := { s with script := v }
/-- The values the run has observed. -/
def State.setObserved (s : State) (v : List Word) : State := { s with observed := v }

/-! ### Faults -/

/-- The causes of a fault that the SCU records (R201). -/
inductive FaultCode where
  /-- Code 1: an illegal command word issued. -/
  | illegalCmd
  /-- Code 2: SEQ_MOD, SEQ_INC or SEQ_EQ with R = 0. -/
  | rangeZero
  /-- Code 3: a misaligned or reserved offset, or a write to a read-only register. -/
  | badAccess
  deriving DecidableEq, Repr

/-- The code recorded for a cause (R201). -/
def faultBits : FaultCode → BitVec 4
  | .illegalCmd => 1
  | .rangeZero => 2
  | .badAccess => 3

/-- `raise FAULT(code)` (R203): the first fault is kept, a later one is not recorded; nothing else
changes. -/
def raise (s : State) (c : FaultCode) : State :=
  if s.fault = 0 then s.setFault (faultBits c) else s

/-! ### Reset -/

/-- `SoftReset()` (R231): every state element of R21, CMD included, takes its reset value. What the
host has still to send and what it has already read are the host's, not elements of R21, and stay
(DEDUCED, unsafe if wrong: log entry 6). -/
def softReset (s : State) : State :=
  (State.reset.setScript s.script).setObserved s.observed

/-! ### The modulus -/

/-- The modulus test SEQ_MOD, SEQ_INC and SEQ_EQ share (R160): RANGE_ZERO and no result when R = 0,
otherwise `f` applied to the modulus. -/
def withModulus (s : State) (f : Nat → State) : State :=
  if s.r = 0 then raise s .rangeZero else f s.r.toNat

end Sys2Proof.Machine
end

