-- ==== Sys2Proof/Machine/Operands.lean ====
section
/-! DEFINITION. Operand assembly: the fields of the wire header (30_encoding.md R70, R71, R79), the six unpacked fields, and pack and unpack (40_header_codec.md R100, R101). -/

namespace Sys2Proof.Machine

/-- `srcOf(H)`, sourcePort[0:2). -/
def srcOf (h : Header) : Half := be16 h 0
/-- `dstOf(H)`, destPort[2:4). -/
def dstOf (h : Header) : Half := be16 h 2
/-- `seqOf(H)`, seq[4:8). -/
def seqOf (h : Header) : Word := be32 h 4
/-- `ackOf(H)`, ack[8:12). -/
def ackOf (h : Header) : Word := be32 h 8
/-- `markerOf(H)`, byte[12]. -/
def markerOf (h : Header) : Byte := h[12]
/-- `flagsOf(H)`, flags byte[13]. -/
def flagsOf (h : Header) : Byte := h[13]
/-- `winOf(H)`, windowSize[14:16). -/
def winOf (h : Header) : Half := be16 h 14
/-- `csumOf(H)`, checksum[16:18). -/
def csumOf (h : Header) : Half := be16 h 16
/-- `urgOf(H)`, urgentPointer[18:20), read as it stands (R73). -/
def urgOf (h : Header) : Half := be16 h 18

/-- The six header fields that pack takes and unpack returns (R100, R101). -/
structure Fields where
  /-- sourcePort. -/
  sp : Half
  /-- destPort. -/
  dp : Half
  /-- sequenceNumber. -/
  seq : Word
  /-- ackNumber. -/
  ack : Word
  /-- flags. -/
  fl : Byte
  /-- windowSize. -/
  ws : Half
  deriving DecidableEq, Repr

/-- The six field registers as ENCODE reads them (R102). -/
def fieldsOf (s : State) : Fields where
  sp := s.src
  dp := s.dst
  seq := s.seq
  ack := s.ack
  fl := s.flg
  ws := s.win

/-- Writing the six field registers, as DECODE does (R103). -/
def setFields (s : State) (f : Fields) : State :=
  (((((s.setSrc f.sp).setDst f.dp).setSeq f.seq).setAck f.ack).setFlg f.fl).setWin f.ws

/-- The header pack starts from; pack writes all 20 bytes, so its contents do not matter (R100). -/
def blankHeader : Header := Vector.replicate 20 0x00

/-- `pack(sp, dp, seq, ack, fl, ws)` (R100), for an SCU whose MARKER is `mk`. The checksum field is
left zero for STAMP (R74) and the urgent pointer is zero (R73). -/
def pack (mk : Byte) (f : Fields) : Header :=
  let h := put16 blankHeader 0 f.sp
  let h := put16 h 2 f.dp
  let h := put32 h 4 f.seq
  let h := put32 h 8 f.ack
  let h := put8 h 12 mk
  let h := put8 h 13 f.fl
  let h := put16 h 14 f.ws
  let h := put16 h 16 0x0000
  put16 h 18 Config.urgentPointer

/-- `unpack(H)` (R101): neither the marker byte, the checksum nor the urgent pointer is read. -/
def unpack (h : Header) : Fields where
  sp := srcOf h
  dp := dstOf h
  seq := seqOf h
  ack := ackOf h
  fl := flagsOf h
  ws := winOf h

end Sys2Proof.Machine
end

