-- ==== Sys2Proof/Machine/Flags.lean ====
section
/-! DEFINITION. The computations behind the SCU's flags: the checksum (41_checksum.md R131, R132) and STATUS.OK (R134), the recovered length (R140) and STATUS.VALID (R141), STATUS.EQ (42_seq_arith.md R164), the STATUS word (20_memory.md R53), and the two meaningful bits of the header's flags byte (30_encoding.md R72). -/

namespace Sys2Proof.Machine

/-- `csumSum(H, len)` (R131): the five summed terms, added as integers and narrowed to 16 bits. -/
def csumSum (h : Header) (len : Word) : Half :=
  trunc16 ((trunc16 len.toNat).toNat + (srcOf h).toNat + (dstOf h).toNat + (winOf h).toNat
    + (urgOf h).toNat)

/-- `csum(H, len)` (R132): the plain complement of the sum, no end-around carry (C1). -/
def csum (h : Header) (len : Word) : Half := not16 (csumSum h len)

/-- The value VERIFY gives STATUS.OK (R134). -/
def okOf (h : Header) (len : Word) : Bool := csumOf h == csum h len

/-- `t` of R140: the recovered total length modulo 2^16. -/
def recoveredBits (h : Header) : Half :=
  BitVec.ofInt 16 (((not16 (csumOf h)).toNat : Int) - (srcOf h).toNat - (dstOf h).toNat
    - (winOf h).toNat - (urgOf h).toNat)

/-- `plen` of R140: the recovered length read as two's complement, less the header's 20 bytes. -/
def recoveredPlen (h : Header) : Int := sext16 (recoveredBits h) - Config.hdrSize

/-- The value RECOVER gives STATUS.VALID (R141); BUFLEN is compared unsigned. -/
def validOf (p : Int) (buflen : Word) : Bool :=
  decide (0 ≤ p ∧ p ≤ Config.maxPayload ∧ p + Config.hdrSize ≤ buflen.toNat)

/-- The value SEQ_EQ gives STATUS.EQ for the modulus `n` (R164): A is not reduced, B is. -/
def eqOf (a b : Word) (n : Nat) : Bool := a.toNat == b.toNat % n

/-- The STATUS word a bus read returns (R33, R53): FAULT in bits 11 to 8, EQ, VALID and OK in bits 2 to
0, reserved bits zero. -/
def statusWord (s : State) : Word :=
  (zext32 s.fault <<< 8) ||| (zext32 (BitVec.ofBool s.eqFlag) <<< 2)
    ||| (zext32 (BitVec.ofBool s.validFlag) <<< 1) ||| zext32 (BitVec.ofBool s.okFlag)

/-- The ACK bit of a flags byte, bit 4 (R72); the test belongs to the host (R106). -/
def flagsHasAck (f : Byte) : Bool := f.getLsbD 4

/-- The FIN bit of a flags byte, bit 0 (R72); the test belongs to the host (R106). -/
def flagsHasFin (f : Byte) : Bool := f.getLsbD 0

end Sys2Proof.Machine
end

