-- ==== Sys2Proof/Machine/Checksum.lean ====
section
/-! DEFINITION. The meanings of the checksum commands (41_checksum.md): STAMP, VERIFY and RECOVER. A failed verify and an invalid length are results, not faults (60_exceptions.md R209). -/

namespace Sys2Proof.Machine

/-- STAMP (R133): HDR[16:18) <- csum(HDR, LEN), the fields taken from HDR. -/
def execStamp (s : State) : Host.Outcome State Fault Refusal :=
  .next (s.setHdr (put16 s.hdr 16 (csum s.hdr s.len)))

/-- VERIFY (R134): OK <- whether the checksum field is the recomputed one. -/
def execVerify (s : State) : Host.Outcome State Fault Refusal :=
  .next (s.setOkFlag (okOf s.hdr s.len))

/-- RECOVER (R142): PLEN <- the recovered payload length, valid or not; VALID <- its validity. -/
def execRecover (s : State) : Host.Outcome State Fault Refusal :=
  .next ((s.setPlen (BitVec.ofInt 32 (recoveredPlen s.hdr))).setValidFlag
    (validOf (recoveredPlen s.hdr) s.buflen))

end Sys2Proof.Machine
end

