-- ==== Sys2Proof/Machine/Codec.lean ====
section
/-! DEFINITION. The meanings of the header codec commands (40_header_codec.md): ENCODE, DECODE and the four field readers. None raises a fault of its own. -/

namespace Sys2Proof.Machine

/-- ENCODE (R102): HDR <- pack of the six field registers, as they stand. -/
def execEncode (s : State) : Host.Outcome State Fault Refusal :=
  .next (s.setHdr (pack Config.marker (fieldsOf s)))

/-- DECODE (R103): the six field registers <- unpack(HDR); nothing is checked. -/
def execDecode (s : State) : Host.Outcome State Fault Refusal :=
  .next (setFields s (unpack s.hdr))

/-- EXT_SEQ (R104): SEQ <- be32(HDR, 4), not reduced. -/
def execExtSeq (s : State) : Host.Outcome State Fault Refusal :=
  .next (s.setSeq (seqOf s.hdr))

/-- EXT_ACK (R105): ACK <- be32(HDR, 8). -/
def execExtAck (s : State) : Host.Outcome State Fault Refusal :=
  .next (s.setAck (ackOf s.hdr))

/-- EXT_FLG (R106): FLG <- HDR[13]. -/
def execExtFlg (s : State) : Host.Outcome State Fault Refusal :=
  .next (s.setFlg (flagsOf s.hdr))

/-- EXT_WIN (R107): WIN <- be16(HDR, 14). -/
def execExtWin (s : State) : Host.Outcome State Fault Refusal :=
  .next (s.setWin (winOf s.hdr))

end Sys2Proof.Machine
end

