-- ==== Sys2Proof/Machine/Seq.lean ====
section
/-! DEFINITION. The meanings of the sequence-number helpers (42_seq_arith.md): SEQ_MOD, SEQ_INC, SEQ_RANGE and SEQ_EQ. Arithmetic is on exact integers; results are stored in 32 bits. -/

namespace Sys2Proof.Machine

/-- SEQ_MOD (R161): Y <- A mod R; RANGE_ZERO when R = 0. -/
def execSeqMod (s : State) : Host.Outcome State Fault Refusal :=
  .next (withModulus s fun n => s.setY (BitVec.ofNat 32 (s.a.toNat % n)))

/-- SEQ_INC (R162): Y <- (A + 1) mod R, the sum exact; RANGE_ZERO when R = 0. -/
def execSeqInc (s : State) : Host.Outcome State Fault Refusal :=
  .next (withModulus s fun n => s.setY (BitVec.ofNat 32 ((s.a.toNat + 1) % n)))

/-- SEQ_RANGE (R163): R <- 2 x WIN, at most 0x1FFFE. -/
def execSeqRange (s : State) : Host.Outcome State Fault Refusal :=
  .next (s.setR (BitVec.ofNat 32 (2 * s.win.toNat)))

/-- SEQ_EQ (R164): EQ <- whether A = B mod R; RANGE_ZERO when R = 0. -/
def execSeqEq (s : State) : Host.Outcome State Fault Refusal :=
  .next (withModulus s fun n => s.setEqFlag (eqOf s.a s.b n))

end Sys2Proof.Machine
end

