-- ==== Sys2Proof/Machine/Dispatch.lean ====
section
/-! DEFINITION. `Execute(m)` of 43_control.md R180: one arm per command. The pending-fault test of R180 and R205 stands before it, in issueCommand (Machine/Bus.lean; log entry 5). -/

namespace Sys2Proof.Machine

def exec (i : Instr) (s : State) : Host.Outcome State Fault Refusal :=
  match i with
  | .nop => Sys2Proof.Machine.execNop s
  | .encode => Sys2Proof.Machine.execEncode s
  | .stamp => Sys2Proof.Machine.execStamp s
  | .verify => Sys2Proof.Machine.execVerify s
  | .recover => Sys2Proof.Machine.execRecover s
  | .decode => Sys2Proof.Machine.execDecode s
  | .extSeq => Sys2Proof.Machine.execExtSeq s
  | .extAck => Sys2Proof.Machine.execExtAck s
  | .extFlg => Sys2Proof.Machine.execExtFlg s
  | .extWin => Sys2Proof.Machine.execExtWin s
  | .seqMod => Sys2Proof.Machine.execSeqMod s
  | .seqInc => Sys2Proof.Machine.execSeqInc s
  | .seqRange => Sys2Proof.Machine.execSeqRange s
  | .seqEq => Sys2Proof.Machine.execSeqEq s

end Sys2Proof.Machine
end

