-- ==== Sys2Proof/Machine/RegMap.lean ====
section
/-! DEFINITION. The register bus map (20_memory.md R54): the registers by name, their offsets, their access, and which register an offset names. -/

namespace Sys2Proof.Machine

/-- A register of the map (R54); HDR0 to HDR4 are `hdr 0` to `hdr 4`. -/
inductive Reg where
  | ctrl
  | cmd
  | status
  | src
  | dst
  | seq
  | ack
  | flg
  | win
  | len
  | buflen
  | plen
  | a
  | b
  | r
  | y
  | hdr (k : Fin 5)
  deriving DecidableEq, Repr

/-- The offset of a register (R54). -/
def offsetOf : Reg → Offset
  | .ctrl => 0x00
  | .cmd => 0x04
  | .status => 0x08
  | .src => 0x10
  | .dst => 0x14
  | .seq => 0x18
  | .ack => 0x1C
  | .flg => 0x20
  | .win => 0x24
  | .len => 0x28
  | .buflen => 0x2C
  | .plen => 0x30
  | .a => 0x38
  | .b => 0x3C
  | .r => 0x40
  | .y => 0x44
  | .hdr k => BitVec.ofNat 8 (0x50 + 4 * k.val)

/-- The read-only registers (R57): STATUS, PLEN and Y. -/
def isReadOnly : Reg → Bool
  | .status => true
  | .plen => true
  | .y => true
  | .ctrl => false
  | .cmd => false
  | .src => false
  | .dst => false
  | .seq => false
  | .ack => false
  | .flg => false
  | .win => false
  | .len => false
  | .buflen => false
  | .a => false
  | .b => false
  | .r => false
  | .hdr _ => false

/-- `off[1:0] ≠ 0` (R55). -/
def isMisaligned (off : Offset) : Bool := off.extractLsb' 0 2 != 0

/-- The register an offset names, as the `case off of` of R52 and R53 lists them; no other offset is
mapped (R56). -/
def regAt (off : Offset) : Option Reg :=
  match off.toNat with
  | 0x00 => some .ctrl
  | 0x04 => some .cmd
  | 0x08 => some .status
  | 0x10 => some .src
  | 0x14 => some .dst
  | 0x18 => some .seq
  | 0x1C => some .ack
  | 0x20 => some .flg
  | 0x24 => some .win
  | 0x28 => some .len
  | 0x2C => some .buflen
  | 0x30 => some .plen
  | 0x38 => some .a
  | 0x3C => some .b
  | 0x40 => some .r
  | 0x44 => some .y
  | 0x50 => some (.hdr 0)
  | 0x54 => some (.hdr 1)
  | 0x58 => some (.hdr 2)
  | 0x5C => some (.hdr 3)
  | 0x60 => some (.hdr 4)
  | _ => none

end Sys2Proof.Machine
end

