-- ==== Sys2Proof/Machine/Bus.lean ====
section
/-! DEFINITION. The register bus: BusWrite (20_memory.md R52), BusRead (R53), IssueCommand (43_control.md R180), and one step of the SCU, which performs the host's next transaction (R20, R62). -/

namespace Sys2Proof.Machine

/-- `IssueCommand(w)` (R180): suppressed while a fault is pending (R205), then decoded, then
executed. -/
def issueCommand (w : Word) (s : State) : Host.Outcome State Fault Refusal :=
  if s.fault ≠ 0 then .next s
  else
    match decodeWord w with
    | .error _ => .next (raise s .illegalCmd)
    | .ok i => exec i s

/-- A write to a mapped, aligned register (the arms of R52). Narrow registers keep the low bits
(R23); CTRL bit 0 resets (R231, R232); a read-only register raises BAD_ACCESS (R57). -/
def writeReg (reg : Reg) (d : Word) (s : State) : Host.Outcome State Fault Refusal :=
  match reg with
  | .ctrl => .next (if d.getLsbD 0 then softReset s else s)
  | .cmd => issueCommand d (s.setCmd d)
  | .src => .next (s.setSrc (d.extractLsb' 0 16))
  | .dst => .next (s.setDst (d.extractLsb' 0 16))
  | .seq => .next (s.setSeq d)
  | .ack => .next (s.setAck d)
  | .flg => .next (s.setFlg (d.extractLsb' 0 8))
  | .win => .next (s.setWin (d.extractLsb' 0 16))
  | .len => .next (s.setLen d)
  | .buflen => .next (s.setBuflen d)
  | .a => .next (s.setA d)
  | .b => .next (s.setB d)
  | .r => .next (s.setR d)
  | .hdr k => .next (s.setHdr (put32 s.hdr (4 * k.val) d))
  | .status => .next (raise s .badAccess)
  | .plen => .next (raise s .badAccess)
  | .y => .next (raise s .badAccess)

/-- The value of a mapped register on the bus (the arms of R53). -/
def readReg (reg : Reg) (s : State) : Word :=
  match reg with
  | .ctrl => 0x00000000
  | .cmd => s.cmd
  | .status => statusWord s
  | .src => zext32 s.src
  | .dst => zext32 s.dst
  | .seq => s.seq
  | .ack => s.ack
  | .flg => zext32 s.flg
  | .win => zext32 s.win
  | .len => s.len
  | .buflen => s.buflen
  | .plen => s.plen
  | .a => s.a
  | .b => s.b
  | .r => s.r
  | .y => s.y
  | .hdr k => be32 s.hdr (4 * k.val)

/-- `BusWrite(off, d)` (R52): misalignment is tested first (R204), then the map. -/
def busWrite (off : Offset) (d : Word) (s : State) : Host.Outcome State Fault Refusal :=
  if isMisaligned off then .next (raise s .badAccess)
  else
    match regAt off with
    | none => .next (raise s .badAccess)
    | some reg => writeReg reg d s

/-- `BusRead(off)` (R53): the value returned and the state after it. A faulting read returns 0. -/
def busRead (off : Offset) (s : State) : Word × State :=
  if isMisaligned off then (0x00000000, raise s .badAccess)
  else
    match regAt off with
    | none => (0x00000000, raise s .badAccess)
    | some reg => (readReg reg s, s)

/-- The value a read returns is an observation of the run (R82, R240). -/
def observe (p : Word × State) : State := p.2.setObserved (p.2.observed ++ [p.1])

/-- One host transaction, performed whole (R52, R53, R60). -/
def transact (t : Transaction) (s : State) : Host.Outcome State Fault Refusal :=
  match t with
  | .write off d => busWrite off d s
  | .read off => .next (observe (busRead off s))

/-- One step: the host's next transaction leaves the script and is performed (R20, R62). Without one
the run has ended (R240; log entry 3). -/
def takeStep (s : State) : Host.Outcome State Fault Refusal :=
  match s.script with
  | [] => .fault .scriptEnded
  | t :: rest => transact t (s.setScript rest)

/-- The state in which the host's very next transaction writes the command word `w mod 2^nbits` to CMD:
the SCU has no fetch, a word is consumed at the moment it is written to CMD (R38, R65; log entry 1). -/
def issueNext (s : State) (nbits w : Nat) : State :=
  s.setScript (.write (offsetOf .cmd) (BitVec.ofNat 32 (w % 2 ^ nbits)) :: s.script)

end Sys2Proof.Machine
end

