-- ==== Sys2Proof/Machine/Step.lean ====
section
/-! DEFINITION. The step of the machine, one host transaction (10_state.md R20), and the placing of a command where the next step takes it. -/

namespace Sys2Proof.Machine

/-- One step of the SCU (R20): the operations are in Machine/Bus.lean. -/
def step (s : State) : Host.Outcome State Fault Refusal := takeStep s

/-- `s` with the table word placed as the host's next transaction, a write to CMD (log entry 1). -/
def State.withFetchWord (s : State) (nbits w : Nat) : State := issueNext s nbits w

end Sys2Proof.Machine
end

