-- ==== Sys2Proof/Machine/Script.lean ====
section
/-! DEFINITION. The host script's syntax (30_encoding.md R82) and its pseudo-instructions (R83), as terms, and the bus transactions each line stands for. Only the abstract lines are modelled, not their text (log entry 10). -/

namespace Sys2Proof.Machine

/-- `<reg>` of a script line: a named register or a raw offset `@0xNN` (R82). -/
inductive RegName where
  | named (reg : Reg)
  | raw (off : Offset)
  deriving DecidableEq, Repr

/-- `offset(reg)` (R82). -/
def regNameOffset : RegName → Offset
  | .named reg => offsetOf reg
  | .raw off => off

/-- A line of a host script (R82), the pseudo-instructions of R83 among them. -/
inductive ScriptLine where
  /-- `WR <reg>, <value>`. -/
  | wr (reg : RegName) (value : Word)
  /-- `RD <reg>`. -/
  | rd (reg : RegName)
  /-- `RD <reg> -> <expected>`: the same read, annotated. -/
  | rdExpect (reg : RegName) (expected : Word)
  /-- `<MNEMONIC>`. -/
  | command (i : Instr)
  /-- `SRST`. -/
  | srst
  /-- `PACK`. -/
  | pack
  /-- `LDHDR w0, w1, w2, w3, w4`. -/
  | ldhdr (w0 w1 w2 w3 w4 : Word)
  /-- `RDHDR`. -/
  | rdhdr
  /-- `SETRANGE n`. -/
  | setRange (n : Word)
  deriving DecidableEq, Repr

/-- `<MNEMONIC>` is `WR CMD, OP` (R82). -/
def issueWrite (i : Instr) : Transaction := .write (offsetOf .cmd) (encodeInstr i)

/-- The bus transactions of one line (R82, R83). -/
def expandLine : ScriptLine → List Transaction
  | .wr reg value => [.write (regNameOffset reg) value]
  | .rd reg => [.read (regNameOffset reg)]
  | .rdExpect reg _ => [.read (regNameOffset reg)]
  | .command i => [issueWrite i]
  | .srst => [.write (offsetOf .ctrl) 0x00000001]
  | .pack => [issueWrite .encode, issueWrite .stamp]
  | .ldhdr w0 w1 w2 w3 w4 =>
    [.write (offsetOf (.hdr 0)) w0, .write (offsetOf (.hdr 1)) w1, .write (offsetOf (.hdr 2)) w2,
      .write (offsetOf (.hdr 3)) w3, .write (offsetOf (.hdr 4)) w4]
  | .rdhdr =>
    [.read (offsetOf (.hdr 0)), .read (offsetOf (.hdr 1)), .read (offsetOf (.hdr 2)),
      .read (offsetOf (.hdr 3)), .read (offsetOf (.hdr 4))]
  | .setRange n => [.write (offsetOf .r) n]

/-- The transactions of a script, its lines in order (R82). -/
def assemble (lines : List ScriptLine) : List Transaction := lines.flatMap expandLine

/-- `s` with a script as the host's input: how a program comes to run from State.reset (log entry 1). -/
def loadScript (s : State) (lines : List ScriptLine) : State := s.setScript (assemble lines)

end Sys2Proof.Machine
end

