-- ==== Sys2Proof/Safety.lean ====
section
/-! DEFINITION. What claims say about states and runs: a run without a recorded fault (70_reset_and_hazards.md R240), and the invariant every step keeps. -/

namespace Sys2Proof.Machine

/-- No fault is recorded; a claim about a run takes it at the end as a premise (R240). -/
def State.faultFree (s : State) : Bool := s.fault == 0

/-- STATUS.FAULT holds one of its legal values 0 to 3 (R37, R201). -/
abbrev State.faultLegal (s : State) : Prop := s.fault.toNat ≤ 3

/-- PLEN holds a value RECOVER can compute, or its reset value: -32788 to 32747 (R140). -/
abbrev State.plenInRange (s : State) : Prop := -32788 ≤ s.plen.toInt ∧ s.plen.toInt ≤ 32747

/-- VALID is set only beside a PLEN that is a legal payload length, 0 to 556 (R141, R142). -/
abbrev State.validMeansPayload (s : State) : Prop :=
  s.validFlag = true → 0 ≤ s.plen.toInt ∧ s.plen.toInt ≤ 556

/-- The invariant every step keeps. -/
abbrev State.Inv (s : State) : Prop := s.faultLegal ∧ s.plenInRange ∧ s.validMeansPayload

/-- A write of 1 to CTRL bit 0, the only transaction that resets (R231). -/
def isResetWrite : Transaction → Bool
  | .write off d => off == 0x00 && d.getLsbD 0
  | .read _ => false

/-- Every element of R21 at the value R40's table gives it. -/
abbrev IsReset (t : State) : Prop :=
  t.src = 0x0000 ∧ t.dst = 0x0000 ∧ t.win = 0x0000 ∧ t.seq = 0x00000000 ∧ t.ack = 0x00000000 ∧
  t.flg = 0x00 ∧ t.len = 0x00000000 ∧ t.buflen = 0x00000000 ∧ t.plen = 0x00000000 ∧
  t.a = 0x00000000 ∧ t.b = 0x00000000 ∧ t.r = 0x00000000 ∧ t.y = 0x00000000 ∧
  (∀ (i : Nat) (hi : i < 20), t.hdr[i] = 0x00) ∧ t.cmd = 0x00000000 ∧
  t.okFlag = false ∧ t.validFlag = false ∧ t.eqFlag = false ∧ t.fault = 0

/-- The mapped offsets, as R54's table lists them. -/
def mappedOffsets : List Nat :=
  [0x00, 0x04, 0x08, 0x10, 0x14, 0x18, 0x1C, 0x20, 0x24, 0x28, 0x2C, 0x30, 0x38, 0x3C, 0x40, 0x44,
    0x50, 0x54, 0x58, 0x5C, 0x60]

/-- The number two header bytes stand for, high byte first (R9, R58). -/
def num16 (h : Header) (o : Nat) (ho : o + 1 < 20 := by omega) : Nat :=
  h[o].toNat * 2 ^ 8 + h[o + 1].toNat

/-- The number four header bytes stand for, highest byte first (R9, R58). -/
def num32 (h : Header) (o : Nat) (ho : o + 3 < 20 := by omega) : Nat :=
  h[o].toNat * 2 ^ 24 + h[o + 1].toNat * 2 ^ 16 + h[o + 2].toNat * 2 ^ 8 + h[o + 3].toNat

/-- What a bus read of each mapped offset returns (R53, R54). -/
def readValues (s : State) : List (Offset × Word) :=
  [(0x00, 0x00000000), (0x04, s.cmd),
    (0x08, BitVec.ofNat 32 (s.fault.toNat * 2 ^ 8 + s.eqFlag.toNat * 2 ^ 2 + s.validFlag.toNat * 2
      + s.okFlag.toNat)),
    (0x10, BitVec.ofNat 32 s.src.toNat), (0x14, BitVec.ofNat 32 s.dst.toNat), (0x18, s.seq),
    (0x1C, s.ack), (0x20, BitVec.ofNat 32 s.flg.toNat), (0x24, BitVec.ofNat 32 s.win.toNat),
    (0x28, s.len), (0x2C, s.buflen), (0x30, s.plen), (0x38, s.a), (0x3C, s.b), (0x40, s.r),
    (0x44, s.y), (0x50, BitVec.ofNat 32 (num32 s.hdr 0)), (0x54, BitVec.ofNat 32 (num32 s.hdr 4)),
    (0x58, BitVec.ofNat 32 (num32 s.hdr 8)), (0x5C, BitVec.ofNat 32 (num32 s.hdr 12)),
    (0x60, BitVec.ofNat 32 (num32 s.hdr 16))]

/-- The checksum as a number: 0xFFFF less the five summed terms modulo 2^16 (R131, R132). -/
def csumNum (h : Header) (len : Word) : Nat :=
  0xFFFF - (len.toNat % 2 ^ 16 + num16 h 0 + num16 h 2 + num16 h 14 + num16 h 18) % 2 ^ 16

/-- The fault code left when a cause with code `c` arises: the first code is kept (R203). -/
def keptFault (s : State) (c : BitVec 4) : BitVec 4 := if s.fault = 0 then c else s.fault

/-- Two headers hold the same bytes at offsets `a` to `b - 1` (R8's H[a:b)). -/
abbrev sameBytes (a b : Nat) (g h : Header) : Prop :=
  ∀ (i : Nat) (hi : i < 20), a ≤ i → i < b → g[i] = h[i]

/-- Two states agree on what a command reads (the "reads" column of 30_encoding.md R78). -/
def operandsAgree (i : Instr) (s t : State) : Prop :=
  match i with
  | .nop => True
  | .encode => s.src = t.src ∧ s.dst = t.dst ∧ s.seq = t.seq ∧ s.ack = t.ack ∧ s.flg = t.flg ∧
      s.win = t.win
  | .stamp => sameBytes 0 4 s.hdr t.hdr ∧ sameBytes 14 16 s.hdr t.hdr ∧ sameBytes 18 20 s.hdr t.hdr ∧
      s.len = t.len
  | .verify => sameBytes 0 4 s.hdr t.hdr ∧ sameBytes 14 20 s.hdr t.hdr ∧ s.len = t.len
  | .recover => sameBytes 0 4 s.hdr t.hdr ∧ sameBytes 14 20 s.hdr t.hdr ∧ s.buflen = t.buflen
  | .decode => sameBytes 0 16 s.hdr t.hdr
  | .extSeq => sameBytes 4 8 s.hdr t.hdr
  | .extAck => sameBytes 8 12 s.hdr t.hdr
  | .extFlg => sameBytes 13 14 s.hdr t.hdr
  | .extWin => sameBytes 14 16 s.hdr t.hdr
  | .seqMod => s.a = t.a ∧ s.r = t.r
  | .seqInc => s.a = t.a ∧ s.r = t.r
  | .seqRange => s.win = t.win
  | .seqEq => s.a = t.a ∧ s.b = t.b ∧ s.r = t.r

/-- Two states agree on what a command writes (the "writes" column of R78). A modular helper writes
its result only when R is not 0 (R160). -/
def resultsAgree (i : Instr) (s t : State) : Prop :=
  match i with
  | .nop => True
  | .encode => s.hdr = t.hdr
  | .stamp => sameBytes 16 18 s.hdr t.hdr
  | .verify => s.okFlag = t.okFlag
  | .recover => s.plen = t.plen ∧ s.validFlag = t.validFlag
  | .decode => s.src = t.src ∧ s.dst = t.dst ∧ s.seq = t.seq ∧ s.ack = t.ack ∧ s.flg = t.flg ∧
      s.win = t.win
  | .extSeq => s.seq = t.seq
  | .extAck => s.ack = t.ack
  | .extFlg => s.flg = t.flg
  | .extWin => s.win = t.win
  | .seqMod => s.r ≠ 0 → s.y = t.y
  | .seqInc => s.r ≠ 0 → s.y = t.y
  | .seqRange => s.r = t.r
  | .seqEq => s.r ≠ 0 → s.eqFlag = t.eqFlag

/-- A step that executes one of the commands in `is`: no fault pending, the host's next transaction
writes a word to CMD (offset 0x04) that decodes to one of them (R180). -/
def executes (s : State) (is : List Instr) : Prop :=
  s.fault = 0 ∧ ∃ w rest i, s.script = .write 0x04 w :: rest ∧ decodeWord w = .ok i ∧ i ∈ is

/-- A step whose transaction is the soft reset (R231). -/
def resets (s : State) : Prop := ∃ t rest, s.script = t :: rest ∧ isResetWrite t = true

end Sys2Proof.Machine
end

