-- ==== Sys2Proof/Certificates/Slice0/Obligations.lean ====
section
/-! DEFINITION. The statements for the provers. Each docstring names the rule of spec/ it formalises. `script` and `observed` are the model's own fields (log entries 1 and 2): the transaction a step performs leaves `script`, and a read's value is appended to `observed`; every other field is the spec's. `keptFault s c` is the code R203 leaves when a cause with code `c` arises in `s`. -/

open Sys2Proof Sys2Proof.Machine

/-! ### Encoding -/

/-- 30_encoding.md R76: each word of the opcode map, written out as the table gives it, decodes to its
command; the neighbours 0x0A, 0x14 and 0x101 are refused by name. -/
def Obligations.OpcodeMapWordsDecode : Prop :=
  decodeWord 0x00000000 = .ok .nop ∧ decodeWord 0x00000001 = .ok .encode ∧
  decodeWord 0x00000002 = .ok .stamp ∧ decodeWord 0x00000003 = .ok .verify ∧
  decodeWord 0x00000004 = .ok .recover ∧ decodeWord 0x00000005 = .ok .decode ∧
  decodeWord 0x00000006 = .ok .extSeq ∧ decodeWord 0x00000007 = .ok .extAck ∧
  decodeWord 0x00000008 = .ok .extFlg ∧ decodeWord 0x00000009 = .ok .extWin ∧
  decodeWord 0x00000010 = .ok .seqMod ∧ decodeWord 0x00000011 = .ok .seqInc ∧
  decodeWord 0x00000012 = .ok .seqRange ∧ decodeWord 0x00000013 = .ok .seqEq ∧
  decodeWord 0x0000000A = .error .unassignedOp ∧ decodeWord 0x00000014 = .error .unassignedOp ∧
  decodeWord 0x00000101 = .error .reservedBits

/-- Decode and encode agree on every command. -/
def Obligations.DecodeOfEncode : Prop :=
  ∀ i : Instr, i.wf = true → decodeWord (encodeInstr i) = .ok i

/-- Over all 2^32 words (R77, R81): a word decodes to a command exactly when it is that command's one
word, and it is rejected for its reserved bits exactly when one of bits 31 to 8 is set. -/
def Obligations.DecodeExactlyTheCommandWords : Prop :=
  (∀ (w : Word) (i : Instr), decodeWord w = .ok i ↔ w = encodeInstr i) ∧
  ∀ w : Word, decodeWord w = .error .reservedBits ↔ 256 ≤ w.toNat

/-- R80: a word with a reserved bit set, or with an unassigned OP, raises ILLEGAL_CMD when it issues
and does nothing else but stand in CMD; every other word is a command. -/
def Obligations.IllegalWordsRaise : Prop :=
  (∀ (s : State) (w : Word) (rest : List Transaction),
    (256 ≤ w.toNat ∨ (0x0A ≤ w.toNat % 256 ∧ w.toNat % 256 ≤ 0x0F) ∨ 0x14 ≤ w.toNat % 256) →
    step { s with script := .write 0x04 w :: rest } =
      .next { s with script := rest, cmd := w, fault := keptFault s 1 }) ∧
  ∀ w : Word,
    ¬ (256 ≤ w.toNat ∨ (0x0A ≤ w.toNat % 256 ∧ w.toNat % 256 ≤ 0x0F) ∨ 0x14 ≤ w.toNat % 256) →
    ∃ i, decodeWord w = .ok i

/-! ### A step, and the issue of a command -/

/-- With no fault pending, the step whose transaction writes a word that decodes to a command IS that
command, run on the state in which CMD holds the word and the transaction has left the script. -/
def Obligations.StepRunsDecodedInstruction : Prop :=
  ∀ (s : State) (w : Word) (i : Instr) (rest : List Transaction),
    s.fault = 0 → decodeWord w = .ok i → i.wf = true →
    step { s with script := .write 0x04 w :: rest } = exec i { s with script := rest, cmd := w }

/-- 43_control.md R180: a write to CMD stores the word; a pending fault suppresses it; an illegal word
raises ILLEGAL_CMD; otherwise the command executes, whole, within the write. -/
def Obligations.CommandIssue : Prop :=
  ∀ (s : State) (w : Word) (rest : List Transaction),
    (s.fault ≠ 0 →
      step { s with script := .write 0x04 w :: rest } = .next { s with script := rest, cmd := w }) ∧
    (∀ e, s.fault = 0 → decodeWord w = .error e →
      step { s with script := .write 0x04 w :: rest } =
        .next { s with script := rest, cmd := w, fault := 1 }) ∧
    (∀ i, s.fault = 0 → decodeWord w = .ok i →
      ∃ t, exec i { s with script := rest, cmd := w } = .next t ∧
        step { s with script := .write 0x04 w :: rest } = .next t ∧ t.cmd = w)

/-- 60_exceptions.md R205: while a fault is pending a command written to CMD is stored and changes
nothing else; every other transaction has the effect it has with no fault pending, FAULT itself and
what a read of STATUS shows of it apart. -/
def Obligations.PendingFaultSuppressesOnlyCommands : Prop :=
  ∀ (s : State) (rest : List Transaction), s.fault ≠ 0 →
    (∀ w : Word,
      step { s with script := .write 0x04 w :: rest } = .next { s with script := rest, cmd := w }) ∧
    (∀ (off : Offset) (d : Word), off ≠ 0x04 →
      ∃ t u, step { s with script := .write off d :: rest } = .next t ∧
        step { s with fault := 0, script := .write off d :: rest } = .next u ∧
        { t with fault := 0 } = { u with fault := 0 }) ∧
    (∀ off : Offset, off ≠ 0x08 →
      ∃ t u, step { s with script := .read off :: rest } = .next t ∧
        step { s with fault := 0, script := .read off :: rest } = .next u ∧
        { t with fault := 0 } = { u with fault := 0 })

/-- R20, R62, R217: one step is one transaction of the host, the SCU is always ready for it, and the
transactions take effect in script order; the observation R240 names is the sequence of values that
reads return. That both stand in State, as `script` and `observed`, is the model's choice (log entries
1 and 2, DESIGN CHOICE); that they stay as they are at a write of 1 to CTRL bit 0, which this statement
takes in, is the model's too (log entry 6, DEDUCED, unsafe if wrong; SoftResetKeepsHostSide states it
alone). -/
def Obligations.StepPerformsOneTransaction : Prop :=
  ∀ (s : State) (x : Transaction) (rest : List Transaction),
    ∃ t, step { s with script := x :: rest } = .next t ∧ t.script = rest ∧
      match x with
      | .write _ _ => t.observed = s.observed
      | .read _ => ∃ v, t.observed = s.observed ++ [v]

/-- The model's reading of R240 (log entry 3, DESIGN CHOICE): with no transaction left the run has
ended, and the step stops by name. -/
def Obligations.RunEndsWithTheScript : Prop :=
  ∀ s : State, step { s with script := [] } = .fault .scriptEnded

/-- 10_state.md R32: CMD holds the last word written, whether it executed, was suppressed or faulted,
every word is accepted for storage, and a bus read of CMD returns it. -/
def Obligations.CmdHoldsLastWordWritten : Prop :=
  State.reset.cmd = 0x00000000 ∧
  ∀ (s : State) (w : Word) (rest : List Transaction),
    ∃ t, step { s with script := .write 0x04 w :: .read 0x04 :: rest } = .next t ∧ t.cmd = w ∧
      step t = .next { t with script := rest, observed := t.observed ++ [w] }

/-! ### Bus accesses -/

/-- R23: SRC, DST, WIN and FLG keep the low bits of a write, without a fault, and read zero-extended. -/
def Obligations.NarrowRegistersKeepLowBits : Prop :=
  ∀ (s : State) (d : Word) (rest : List Transaction),
    step { s with script := .write 0x10 d :: rest } =
      .next { s with script := rest, src := BitVec.ofNat 16 (d.toNat % 2 ^ 16) } ∧
    step { s with script := .write 0x14 d :: rest } =
      .next { s with script := rest, dst := BitVec.ofNat 16 (d.toNat % 2 ^ 16) } ∧
    step { s with script := .write 0x24 d :: rest } =
      .next { s with script := rest, win := BitVec.ofNat 16 (d.toNat % 2 ^ 16) } ∧
    step { s with script := .write 0x20 d :: rest } =
      .next { s with script := rest, flg := BitVec.ofNat 8 (d.toNat % 2 ^ 8) } ∧
    step { s with script := .read 0x10 :: rest } =
      .next { s with script := rest, observed := s.observed ++ [BitVec.ofNat 32 s.src.toNat] } ∧
    step { s with script := .read 0x14 :: rest } =
      .next { s with script := rest, observed := s.observed ++ [BitVec.ofNat 32 s.dst.toNat] } ∧
    step { s with script := .read 0x24 :: rest } =
      .next { s with script := rest, observed := s.observed ++ [BitVec.ofNat 32 s.win.toNat] } ∧
    step { s with script := .read 0x20 :: rest } =
      .next { s with script := rest, observed := s.observed ++ [BitVec.ofNat 32 s.flg.toNat] }

/-- R52: a write to SEQ, ACK, LEN, BUFLEN, A, B or R stores the whole word and changes nothing else,
whatever FAULT holds. -/
def Obligations.WideRegistersStoreTheWord : Prop :=
  ∀ (s : State) (d : Word) (rest : List Transaction),
    step { s with script := .write 0x18 d :: rest } = .next { s with script := rest, seq := d } ∧
    step { s with script := .write 0x1C d :: rest } = .next { s with script := rest, ack := d } ∧
    step { s with script := .write 0x28 d :: rest } = .next { s with script := rest, len := d } ∧
    step { s with script := .write 0x2C d :: rest } = .next { s with script := rest, buflen := d } ∧
    step { s with script := .write 0x38 d :: rest } = .next { s with script := rest, a := d } ∧
    step { s with script := .write 0x3C d :: rest } = .next { s with script := rest, b := d } ∧
    step { s with script := .write 0x40 d :: rest } = .next { s with script := rest, r := d }

/-- R30: HDRk is the big-endian word of bytes 4k to 4k+3; a write of it changes those four bytes and
nothing else; reading it and writing it back changes nothing; ENCODE writes all 20 bytes, STAMP bytes
16 and 17, no other command writes HDR; all bytes are 0 at reset. -/
def Obligations.HeaderWindows : Prop :=
  (∀ (s : State) (d : Word) (k : Fin 5) (rest : List Transaction),
    ∃ t, step { s with script := .write (BitVec.ofNat 8 (0x50 + 4 * k.val)) d :: rest } = .next t ∧
      t = { s with script := rest, hdr := t.hdr } ∧
      ∀ (i : Nat) (hi : i < 20), t.hdr[i] =
        if i / 4 = k.val then BitVec.ofNat 8 (d.toNat / 2 ^ (24 - 8 * (i % 4))) else s.hdr[i]) ∧
  (∀ (s : State) (k : Fin 5) (rest : List Transaction),
    step { s with script := .read (BitVec.ofNat 8 (0x50 + 4 * k.val)) :: rest } =
      .next { s with script := rest,
                     observed := s.observed ++ [BitVec.ofNat 32 (num32 s.hdr (4 * k.val))] } ∧
    step { s with script := .write (BitVec.ofNat 8 (0x50 + 4 * k.val))
                     (BitVec.ofNat 32 (num32 s.hdr (4 * k.val))) :: rest } =
      .next { s with script := rest }) ∧
  (∀ (i : Instr) (s : State), ∃ t, exec i s = .next t ∧
    (i ≠ .encode → i ≠ .stamp → t.hdr = s.hdr) ∧
    (i = .stamp → sameBytes 0 16 t.hdr s.hdr ∧ sameBytes 18 20 t.hdr s.hdr) ∧
    (i = .encode → ∀ g : Header, ∃ u, exec i { s with hdr := g } = .next u ∧ u.hdr = t.hdr)) ∧
  ∀ (i : Nat) (hi : i < 20), State.reset.hdr[i] = 0x00

/-- R53, the whole of BusRead: the value of every register (`readValues`, Safety.lean), with no change but the observation; a
misaligned or unmapped offset raises BAD_ACCESS and returns 0. -/
def Obligations.BusReadValues : Prop :=
  (∀ (s : State) (off : Offset) (v : Word) (rest : List Transaction),
    (off, v) ∈ readValues s →
    step { s with script := .read off :: rest } =
      .next { s with script := rest, observed := s.observed ++ [v] }) ∧
  ∀ (s : State) (off : Offset) (rest : List Transaction),
    off.toNat % 4 ≠ 0 ∨ off.toNat ∉ mappedOffsets →
    step { s with script := .read off :: rest } =
      .next { s with script := rest, fault := keptFault s 3,
                     observed := s.observed ++ [0x00000000] }

/-- R55: a transaction at a misaligned offset raises BAD_ACCESS; a write changes no register, a read
returns 0. -/
def Obligations.MisalignedAccess : Prop :=
  ∀ (s : State) (off : Offset) (d : Word) (rest : List Transaction), off.toNat % 4 ≠ 0 →
    step { s with script := .write off d :: rest } =
      .next { s with script := rest, fault := keptFault s 3 } ∧
    step { s with script := .read off :: rest } =
      .next { s with script := rest, fault := keptFault s 3,
                     observed := s.observed ++ [0x00000000] }

/-- R56: a transaction at a reserved offset raises BAD_ACCESS; a write changes no register, a read
returns 0. -/
def Obligations.ReservedOffsetAccess : Prop :=
  ∀ (s : State) (off : Offset) (d : Word) (rest : List Transaction),
    off = 0x0C ∨ off = 0x34 ∨ off = 0x48 ∨ off = 0x4C ∨ (0x64 ≤ off.toNat ∧ off.toNat % 4 = 0) →
    step { s with script := .write off d :: rest } =
      .next { s with script := rest, fault := keptFault s 3 } ∧
    step { s with script := .read off :: rest } =
      .next { s with script := rest, fault := keptFault s 3,
                     observed := s.observed ++ [0x00000000] }

/-- R57: a write to STATUS, PLEN or Y raises BAD_ACCESS and changes no register. -/
def Obligations.ReadOnlyWrite : Prop :=
  ∀ (s : State) (off : Offset) (d : Word) (rest : List Transaction),
    off = 0x08 ∨ off = 0x30 ∨ off = 0x44 →
    step { s with script := .write off d :: rest } =
      .next { s with script := rest, fault := keptFault s 3 }

/-- R61 says that writes to the registers other than CMD and CTRL are idempotent, and that reads of
mapped registers have no side effect and are idempotent. The other writes this statement takes in are
not R61's: a write to CTRL is idempotent because it resets or does nothing (R231, R232), and a write
at a misaligned or reserved offset or to a read-only register because it only raises BAD_ACCESS (R55,
R56, R57), whose first code is kept (R203). That a read's value is appended to `observed` is the
model's choice (log entry 2, DESIGN CHOICE). -/
def Obligations.AccessesAreIdempotent : Prop :=
  (∀ (s : State) (off : Offset) (d : Word), off ≠ 0x04 →
    ∃ t, transact (.write off d) s = .next t ∧ transact (.write off d) t = .next t) ∧
  ∀ (s : State) (off : Offset), off.toNat ∈ mappedOffsets →
    ∃ v, transact (.read off) s = .next { s with observed := s.observed ++ [v] } ∧
      transact (.read off) { s with observed := s.observed ++ [v] } =
        .next { s with observed := s.observed ++ [v, v] }

/-! ### Reset and faults -/

/-- R40: the value of every state element after power-on reset and after soft reset. -/
def Obligations.ResetValues : Prop :=
  IsReset State.reset ∧
  ∀ (s : State) (d : Word) (rest : List Transaction), d.getLsbD 0 = true →
    ∃ t, step { s with script := .write 0x00 d :: rest } = .next t ∧ IsReset t

/-- R231 and R232: a write to CTRL with bit 0 set gives the SCU the same state as power-on reset,
whatever FAULT holds and whatever the other bits are; with bit 0 clear it has no effect. -/
def Obligations.SoftReset : Prop :=
  ∀ (s : State) (d : Word) (rest : List Transaction),
    (d.getLsbD 0 = true →
      ∃ t, step { s with script := .write 0x00 d :: rest } = .next t ∧
        { t with script := State.reset.script, observed := State.reset.observed } = State.reset) ∧
    (d.getLsbD 0 = false →
      step { s with script := .write 0x00 d :: rest } = .next { s with script := rest })

/-- The model's choice of log entry 6 (DEDUCED): a soft reset leaves what the host has still to send and
what it has read as they are. -/
def Obligations.SoftResetKeepsHostSide : Prop :=
  ∀ (s : State) (d : Word) (rest : List Transaction), d.getLsbD 0 = true →
    ∃ t, step { s with script := .write 0x00 d :: rest } = .next t ∧ t.script = rest ∧
      t.observed = s.observed

/-- R203: the fault primitive records the first code only, and a step that records a fault changes
nothing else but CMD, where it was the write that issued the command; a faulting read returns 0. -/
def Obligations.FaultsAreRecordedAndPrecise : Prop :=
  (∀ s : State, raise s .illegalCmd = { s with fault := keptFault s 1 } ∧
    raise s .rangeZero = { s with fault := keptFault s 2 } ∧
    raise s .badAccess = { s with fault := keptFault s 3 }) ∧
  ∀ (s t : State) (x : Transaction) (rest : List Transaction),
    step { s with script := x :: rest } = .next t → s.fault = 0 → t.fault ≠ 0 →
    (∃ w, x = .write 0x04 w ∧ t = { s with script := rest, cmd := w, fault := t.fault }) ∨
    (∃ off d, x = .write off d ∧ t = { s with script := rest, fault := t.fault }) ∨
    (∃ off, x = .read off ∧
      t = { s with script := rest, fault := t.fault, observed := s.observed ++ [0x00000000] })

/-- R37: FAULT is 0 at reset, only ever takes the codes 1, 2 and 3, and once set keeps its value through
every step until a soft reset clears it. -/
def Obligations.FaultIsStickyUntilReset : Prop :=
  State.reset.fault = 0 ∧
  ∀ s t : State, step s = .next t →
    (s.fault = 0 → t.fault = 0 ∨ t.fault = 1 ∨ t.fault = 2 ∨ t.fault = 3) ∧
    (s.fault ≠ 0 → t.fault = s.fault ∨ (t.fault = 0 ∧ resets s))

/-! ### Invariant -/

/-- Every step keeps the invariant: FAULT holds a legal code (R37), PLEN a value in -32788 to 32747
(R140), and VALID is set only beside a PLEN of 0 to 556 (R141). -/
def Obligations.StepKeepsInvariant : Prop :=
  ∀ s t : State, s.Inv → step s = .next t → t.Inv

/-- The invariant holds right after reset. -/
def Obligations.ResetMeetsInvariant : Prop := State.reset.Inv

/-! ### All commands -/

/-- R78's "writes" column, for every command and every state: the command answers a next state, and
each register is changed only by the commands that write it. -/
def Obligations.CommandsWriteOnlyTheirRegisters : Prop :=
  ∀ (i : Instr) (s : State), ∃ t, exec i s = .next t ∧
    (i ≠ .encode → i ≠ .stamp → t.hdr = s.hdr) ∧
    (i ≠ .decode → t.src = s.src ∧ t.dst = s.dst) ∧
    (i ≠ .decode → i ≠ .extSeq → t.seq = s.seq) ∧
    (i ≠ .decode → i ≠ .extAck → t.ack = s.ack) ∧
    (i ≠ .decode → i ≠ .extFlg → t.flg = s.flg) ∧
    (i ≠ .decode → i ≠ .extWin → t.win = s.win) ∧
    (i ≠ .recover → t.plen = s.plen ∧ t.validFlag = s.validFlag) ∧
    (i ≠ .verify → t.okFlag = s.okFlag) ∧
    (i ≠ .seqEq → t.eqFlag = s.eqFlag) ∧
    (i ≠ .seqMod → i ≠ .seqInc → t.y = s.y) ∧
    (i ≠ .seqRange → t.r = s.r) ∧
    (i ≠ .seqMod → i ≠ .seqInc → i ≠ .seqEq → t.fault = s.fault) ∧
    t.len = s.len ∧ t.buflen = s.buflen ∧ t.a = s.a ∧ t.b = s.b ∧ t.cmd = s.cmd ∧
    t.script = s.script ∧ t.observed = s.observed

/-- R78's "reads" column and R39: two states that agree on what a command reads agree afterwards on
what it writes. -/
def Obligations.CommandsReadOnlyTheirOperands : Prop :=
  ∀ (i : Instr) (s t : State), operandsAgree i s t →
    ∃ s' t', exec i s = .next s' ∧ exec i t = .next t' ∧ resultsAgree i s' t'

/-- R237: Y, PLEN, OK, VALID and EQ keep their values through every step that does not execute the
command that writes them, and through a step that records a fault; a reset apart. -/
def Obligations.ResultsStayUntilTheirCommandExecutes : Prop :=
  ∀ s t : State, step s = .next t → ¬ resets s →
    (¬ executes s [.seqMod, .seqInc] → t.y = s.y) ∧
    (¬ executes s [.recover] → t.plen = s.plen ∧ t.validFlag = s.validFlag) ∧
    (¬ executes s [.verify] → t.okFlag = s.okFlag) ∧
    (¬ executes s [.seqEq] → t.eqFlag = s.eqFlag) ∧
    (s.fault = 0 → t.fault ≠ 0 → t.y = s.y ∧ t.plen = s.plen ∧ t.validFlag = s.validFlag ∧
      t.okFlag = s.okFlag ∧ t.eqFlag = s.eqFlag)

/-! ### Each command -/

/-- 43_control.md R181: NOP has no effect; its word is 0, which is the reset value of CMD; written to
CMD, with a fault pending or not, it changes nothing but CMD. -/
def Obligations.NopResult : Prop :=
  (∀ s : State, exec .nop s = .next s) ∧ encodeInstr .nop = 0x00000000 ∧
  State.reset.cmd = encodeInstr .nop ∧
  ∀ (s : State) (rest : List Transaction),
    step { s with script := .write 0x04 0x00000000 :: rest } =
      .next { s with script := rest, cmd := 0x00000000 }

/-- 40_header_codec.md R102 (with R100): ENCODE writes each of the 20 bytes of HDR from the field
registers as they stand, MARKER, and zeros, and nothing else. -/
def Obligations.EncodeResult : Prop :=
  encodeInstr .encode = 0x00000001 ∧
  ∀ s : State, ∃ t, exec .encode s = .next t ∧ t = { s with hdr := t.hdr } ∧
    t.hdr[0] = BitVec.ofNat 8 (s.src.toNat / 2 ^ 8) ∧ t.hdr[1] = BitVec.ofNat 8 s.src.toNat ∧
    t.hdr[2] = BitVec.ofNat 8 (s.dst.toNat / 2 ^ 8) ∧ t.hdr[3] = BitVec.ofNat 8 s.dst.toNat ∧
    t.hdr[4] = BitVec.ofNat 8 (s.seq.toNat / 2 ^ 24) ∧
    t.hdr[5] = BitVec.ofNat 8 (s.seq.toNat / 2 ^ 16) ∧
    t.hdr[6] = BitVec.ofNat 8 (s.seq.toNat / 2 ^ 8) ∧ t.hdr[7] = BitVec.ofNat 8 s.seq.toNat ∧
    t.hdr[8] = BitVec.ofNat 8 (s.ack.toNat / 2 ^ 24) ∧
    t.hdr[9] = BitVec.ofNat 8 (s.ack.toNat / 2 ^ 16) ∧
    t.hdr[10] = BitVec.ofNat 8 (s.ack.toNat / 2 ^ 8) ∧ t.hdr[11] = BitVec.ofNat 8 s.ack.toNat ∧
    t.hdr[12] = Config.marker ∧ t.hdr[13] = s.flg ∧
    t.hdr[14] = BitVec.ofNat 8 (s.win.toNat / 2 ^ 8) ∧ t.hdr[15] = BitVec.ofNat 8 s.win.toNat ∧
    t.hdr[16] = 0x00 ∧ t.hdr[17] = 0x00 ∧ t.hdr[18] = 0x00 ∧ t.hdr[19] = 0x00

/-- R103: DECODE writes the six field registers from HDR[0:16), whatever the marker, checksum and
urgent pointer are, and nothing else. -/
def Obligations.DecodeResult : Prop :=
  encodeInstr .decode = 0x00000005 ∧
  ∀ s : State, exec .decode s = .next { s with
    src := BitVec.ofNat 16 (num16 s.hdr 0), dst := BitVec.ofNat 16 (num16 s.hdr 2),
    seq := BitVec.ofNat 32 (num32 s.hdr 4), ack := BitVec.ofNat 32 (num32 s.hdr 8),
    flg := s.hdr[13], win := BitVec.ofNat 16 (num16 s.hdr 14) }

/-- R104 to R107: each field reader writes its one register from its bytes of HDR, unreduced and
without sign extension, and nothing else. -/
def Obligations.FieldReaderResults : Prop :=
  encodeInstr .extSeq = 0x00000006 ∧ encodeInstr .extAck = 0x00000007 ∧
  encodeInstr .extFlg = 0x00000008 ∧ encodeInstr .extWin = 0x00000009 ∧
  ∀ s : State,
    exec .extSeq s = .next { s with seq := BitVec.ofNat 32 (num32 s.hdr 4) } ∧
    exec .extAck s = .next { s with ack := BitVec.ofNat 32 (num32 s.hdr 8) } ∧
    exec .extFlg s = .next { s with flg := s.hdr[13] } ∧
    exec .extWin s = .next { s with win := BitVec.ofNat 16 (num16 s.hdr 14) }

/-- 41_checksum.md R133 (with R131 and R132): STAMP writes the checksum, high byte first, to bytes 16
and 17 and changes nothing else; a second STAMP changes nothing. -/
def Obligations.StampResult : Prop :=
  encodeInstr .stamp = 0x00000002 ∧
  ∀ s : State, ∃ t, exec .stamp s = .next t ∧ t = { s with hdr := t.hdr } ∧
    num16 t.hdr 16 = csumNum s.hdr s.len ∧
    sameBytes 0 16 t.hdr s.hdr ∧ sameBytes 18 20 t.hdr s.hdr ∧ exec .stamp t = .next t

/-- R134: VERIFY sets OK exactly when the checksum field equals the recomputed checksum, and changes
nothing else. -/
def Obligations.VerifyResult : Prop :=
  encodeInstr .verify = 0x00000003 ∧
  ∀ s : State, exec .verify s =
    .next { s with okFlag := decide (num16 s.hdr 16 = csumNum s.hdr s.len) }

/-- R140, R141 and R142: RECOVER writes the payload length p, where p + 20 is the complement of the
checksum field less the four fields, modulo 2^16 and read as two's complement; VALID tells whether
0 ≤ p ≤ 556 and p + 20 ≤ BUFLEN; nothing else changes. -/
def Obligations.RecoverResult : Prop :=
  encodeInstr .recover = 0x00000004 ∧
  ∀ s : State, ∃ (p : Int) (t : State), exec .recover s = .next t ∧
    t = { s with plen := t.plen, validFlag := t.validFlag } ∧ t.plen.toInt = p ∧
    -32788 ≤ p ∧ p ≤ 32747 ∧
    (p + 20 - ((0xFFFF : Int) - num16 s.hdr 16 - num16 s.hdr 0 - num16 s.hdr 2 - num16 s.hdr 14
      - num16 s.hdr 18)) % 2 ^ 16 = 0 ∧
    (t.validFlag = true ↔ 0 ≤ p ∧ p ≤ 556 ∧ p + 20 ≤ (s.buflen.toNat : Int))

/-- 42_seq_arith.md R161: Y <- A mod R; RANGE_ZERO and no result when R = 0. -/
def Obligations.SeqModResult : Prop :=
  encodeInstr .seqMod = 0x00000010 ∧
  ∀ s : State,
    (s.r ≠ 0 → exec .seqMod s = .next { s with y := BitVec.ofNat 32 (s.a.toNat % s.r.toNat) }) ∧
    (s.r = 0 → exec .seqMod s = .next { s with fault := keptFault s 2 })

/-- R162: Y <- (A + 1) mod R, the sum exact; RANGE_ZERO and no result when R = 0. -/
def Obligations.SeqIncResult : Prop :=
  encodeInstr .seqInc = 0x00000011 ∧
  ∀ s : State,
    (s.r ≠ 0 →
      exec .seqInc s = .next { s with y := BitVec.ofNat 32 ((s.a.toNat + 1) % s.r.toNat) }) ∧
    (s.r = 0 → exec .seqInc s = .next { s with fault := keptFault s 2 })

/-- R163: R <- 2 x WIN, without overflow and without a fault, WIN = 0 included. -/
def Obligations.SeqRangeResult : Prop :=
  encodeInstr .seqRange = 0x00000012 ∧
  ∀ s : State, ∃ t, exec .seqRange s = .next t ∧ t = { s with r := t.r } ∧
    t.r.toNat = 2 * s.win.toNat ∧ t.r.toNat ≤ 0x1FFFE

/-- R164: EQ <- (A = B mod R), A not reduced; RANGE_ZERO and no result when R = 0. -/
def Obligations.SeqEqResult : Prop :=
  encodeInstr .seqEq = 0x00000013 ∧
  ∀ s : State,
    (s.r ≠ 0 →
      exec .seqEq s = .next { s with eqFlag := decide (s.a.toNat = s.b.toNat % s.r.toNat) }) ∧
    (s.r = 0 → exec .seqEq s = .next { s with fault := keptFault s 2 })

/-- R160: with R = 0 and no fault pending, SEQ_MOD, SEQ_INC and SEQ_EQ, issued, raise RANGE_ZERO and
write no result; SEQ_RANGE never raises it. -/
def Obligations.ZeroRangeFaults : Prop :=
  (∀ (s : State) (w : Word) (rest : List Transaction), s.fault = 0 → s.r = 0 →
    w = 0x00000010 ∨ w = 0x00000011 ∨ w = 0x00000013 →
    step { s with script := .write 0x04 w :: rest } =
      .next { s with script := rest, cmd := w, fault := 2 }) ∧
  ∀ s : State, ∃ t, exec .seqRange s = .next t ∧ t.fault = s.fault

/-! ### Laws -/

/-- R108: unpack after pack gives the fields back, for every marker; ENCODE then DECODE leaves the six
field registers as they were, whether or not a STAMP (at any LEN) comes between. -/
def Obligations.UnpackAfterPack : Prop :=
  (∀ (mk : Byte) (f : Fields), unpack (pack mk f) = f) ∧
  ∀ (s : State) (n : Word), ∃ t u v x, exec .encode s = .next t ∧ exec .decode t = .next u ∧
    fieldsOf u = fieldsOf s ∧ exec .stamp { t with len := n } = .next v ∧ exec .decode v = .next x ∧
    fieldsOf x = fieldsOf s

/-- R109: pack after unpack restores bytes 0 to 11 and 13 to 15, puts MARKER in byte 12 and zeros in
bytes 16 to 19; DECODE then ENCODE restores a header only if those bytes held that already. -/
def Obligations.PackAfterUnpack : Prop :=
  (∀ (mk : Byte) (h : Header),
    sameBytes 0 12 (pack mk (unpack h)) h ∧ sameBytes 13 16 (pack mk (unpack h)) h ∧
    (pack mk (unpack h))[12] = mk ∧ (pack mk (unpack h))[16] = 0x00 ∧
    (pack mk (unpack h))[17] = 0x00 ∧ (pack mk (unpack h))[18] = 0x00 ∧
    (pack mk (unpack h))[19] = 0x00) ∧
  ∀ s : State, ∃ t u, exec .decode s = .next t ∧ exec .encode t = .next u ∧
    (u.hdr = s.hdr ↔ s.hdr[12] = Config.marker ∧ num16 s.hdr 16 = 0 ∧ num16 s.hdr 18 = 0)

/-- R59: what the host reads in the five windows after ENCODE, with the checksum and urgent pointer
zero. -/
def Obligations.WindowsAfterEncode : Prop :=
  ∀ s : State, ∃ t, exec .encode s = .next t ∧
    num32 t.hdr 0 = s.src.toNat * 2 ^ 16 + s.dst.toNat ∧
    num32 t.hdr 4 = s.seq.toNat ∧ num32 t.hdr 8 = s.ack.toNat ∧
    num32 t.hdr 12 = Config.marker.toNat * 2 ^ 24 + s.flg.toNat * 2 ^ 16 + s.win.toNat ∧
    num32 t.hdr 16 = 0

/-- R135: on a header whose checksum field is right for LEN, VERIFY fails after any one bit of a summed
field or of the checksum field is flipped, fails when LEN alone changes modulo 2^16, and still
succeeds after any change of bytes 4 to 13. -/
def Obligations.VerifyDetection : Prop :=
  ∀ s : State, num16 s.hdr 16 = csumNum s.hdr s.len →
    (∀ (i k : Nat) (hi : i < 20), i < 4 ∨ 14 ≤ i → k < 8 →
      ∃ t, exec .verify { s with hdr := s.hdr.set i (s.hdr[i] ^^^ BitVec.ofNat 8 (2 ^ k)) } = .next t ∧
        t.okFlag = false) ∧
    (∀ n : Word, n.toNat % 2 ^ 16 ≠ s.len.toNat % 2 ^ 16 →
      ∃ t, exec .verify { s with len := n } = .next t ∧ t.okFlag = false) ∧
    (∀ g : Header, sameBytes 0 4 g s.hdr → sameBytes 14 20 g s.hdr →
      ∃ t, exec .verify { s with hdr := g } = .next t ∧ t.okFlag = true)

/-- R136: STAMP then VERIFY gives OK = 1 at every header and every LEN, whatever else is written
between them, HDR[0:4), HDR[14:20) and LEN apart. -/
def Obligations.StampThenVerify : Prop :=
  ∀ s : State, ∃ t, exec .stamp s = .next t ∧
    ∀ u : State, u.len = t.len → sameBytes 0 4 u.hdr t.hdr → sameBytes 14 20 u.hdr t.hdr →
      ∃ v, exec .verify u = .next v ∧ v.okFlag = true

/-- R137: lengths that agree modulo 2^16 have the same checksum, so VERIFY cannot tell them apart; no
two legal lengths (at most 576) share one. -/
def Obligations.LengthAliasing : Prop :=
  (∀ (s : State) (k : Nat), s.len.toNat + k * 2 ^ 16 < 2 ^ 32 →
    csum s.hdr (BitVec.ofNat 32 (s.len.toNat + k * 2 ^ 16)) = csum s.hdr s.len ∧
    ∃ t u, exec .verify s = .next t ∧
      exec .verify { s with len := BitVec.ofNat 32 (s.len.toNat + k * 2 ^ 16) } = .next u ∧
      u.okFlag = t.okFlag) ∧
  ∀ (h : Header) (m n : Word), m.toNat ≤ Config.mss → n.toNat ≤ Config.mss →
    csum h m = csum h n → m = n

/-- R138: VERIFY with LEN set to PLEN + 20 after a RECOVER gives OK = 1 for every header. -/
def Obligations.VerifyWithRecoveredLength : Prop :=
  ∀ s : State, ∃ t u, exec .recover s = .next t ∧
    exec .verify { t with len := t.plen + 20 } = .next u ∧ u.okFlag = true

/-- R143: a header stamped with LEN = 20 + n, n at most 556, recovers PLEN = n exactly, for every port,
window and urgent pointer, and is valid exactly when BUFLEN is at least 20 + n. -/
def Obligations.ExactRecovery : Prop :=
  ∀ (s : State) (n : Nat), n ≤ 556 → s.len.toNat = 20 + n →
    ∃ t u, exec .stamp s = .next t ∧ exec .recover t = .next u ∧ u.plen.toNat = n ∧
      (u.validFlag = true ↔ 20 + n ≤ s.buflen.toNat)

/-- R165: with R = 4 the positions 0 to 9 get the sequence numbers 0,1,2,3,0,1,2,3,0,1. -/
def Obligations.SequenceAssignment : Prop :=
  ∀ s : State, s.r = 4 →
    (∀ k : Fin 10, exec .seqMod { s with a := BitVec.ofNat 32 k.val } =
      .next { s with a := BitVec.ofNat 32 k.val,
                     y := BitVec.ofNat 32 ([0, 1, 2, 3, 0, 1, 2, 3, 0, 1].getD k.val 0) })

/-- R166: SEQ_INC on p mod R gives the Y that SEQ_MOD gives on p + 1. -/
def Obligations.IncrementAgreesWithAssignment : Prop :=
  ∀ (s : State) (p : Nat), s.r ≠ 0 → p < 2 ^ 32 - 1 →
    ∃ t u, exec .seqInc { s with a := BitVec.ofNat 32 (p % s.r.toNat) } = .next t ∧
      exec .seqMod { s with a := BitVec.ofNat 32 (p + 1) } = .next u ∧ t.y = u.y

/-- R83: the expansion of each pseudo-instruction of the host script. -/
def Obligations.PseudoInstructionExpansions : Prop :=
  expandLine .pack = [.write 0x04 0x00000001, .write 0x04 0x00000002] ∧
  (∀ w0 w1 w2 w3 w4 : Word, expandLine (.ldhdr w0 w1 w2 w3 w4) =
    [.write 0x50 w0, .write 0x54 w1, .write 0x58 w2, .write 0x5C w3, .write 0x60 w4]) ∧
  expandLine .rdhdr = [.read 0x50, .read 0x54, .read 0x58, .read 0x5C, .read 0x60] ∧
  ∀ n : Word, expandLine (.setRange n) = [.write 0x40 n]
end

