-- ==== Sys2Proof/Laws/State.lean ====
section
/-! SUPPORT. One lemma per field per setter, true by rfl: no later proof unfolds a record update. -/

namespace Sys2Proof.Machine

/-! ### setSrc -/

@[simp] theorem State.setSrc_src (s : State) (v : Half) : (s.setSrc v).src = v := rfl
@[simp] theorem State.setSrc_dst (s : State) (v : Half) : (s.setSrc v).dst = s.dst := rfl
@[simp] theorem State.setSrc_seq (s : State) (v : Half) : (s.setSrc v).seq = s.seq := rfl
@[simp] theorem State.setSrc_ack (s : State) (v : Half) : (s.setSrc v).ack = s.ack := rfl
@[simp] theorem State.setSrc_flg (s : State) (v : Half) : (s.setSrc v).flg = s.flg := rfl
@[simp] theorem State.setSrc_win (s : State) (v : Half) : (s.setSrc v).win = s.win := rfl
@[simp] theorem State.setSrc_len (s : State) (v : Half) : (s.setSrc v).len = s.len := rfl
@[simp] theorem State.setSrc_buflen (s : State) (v : Half) : (s.setSrc v).buflen = s.buflen := rfl
@[simp] theorem State.setSrc_plen (s : State) (v : Half) : (s.setSrc v).plen = s.plen := rfl
@[simp] theorem State.setSrc_a (s : State) (v : Half) : (s.setSrc v).a = s.a := rfl
@[simp] theorem State.setSrc_b (s : State) (v : Half) : (s.setSrc v).b = s.b := rfl
@[simp] theorem State.setSrc_r (s : State) (v : Half) : (s.setSrc v).r = s.r := rfl
@[simp] theorem State.setSrc_y (s : State) (v : Half) : (s.setSrc v).y = s.y := rfl
@[simp] theorem State.setSrc_hdr (s : State) (v : Half) : (s.setSrc v).hdr = s.hdr := rfl
@[simp] theorem State.setSrc_cmd (s : State) (v : Half) : (s.setSrc v).cmd = s.cmd := rfl
@[simp] theorem State.setSrc_okFlag (s : State) (v : Half) : (s.setSrc v).okFlag = s.okFlag := rfl
@[simp] theorem State.setSrc_validFlag (s : State) (v : Half) : (s.setSrc v).validFlag = s.validFlag := rfl
@[simp] theorem State.setSrc_eqFlag (s : State) (v : Half) : (s.setSrc v).eqFlag = s.eqFlag := rfl
@[simp] theorem State.setSrc_fault (s : State) (v : Half) : (s.setSrc v).fault = s.fault := rfl
@[simp] theorem State.setSrc_script (s : State) (v : Half) : (s.setSrc v).script = s.script := rfl
@[simp] theorem State.setSrc_observed (s : State) (v : Half) : (s.setSrc v).observed = s.observed := rfl

/-! ### setDst -/

@[simp] theorem State.setDst_src (s : State) (v : Half) : (s.setDst v).src = s.src := rfl
@[simp] theorem State.setDst_dst (s : State) (v : Half) : (s.setDst v).dst = v := rfl
@[simp] theorem State.setDst_seq (s : State) (v : Half) : (s.setDst v).seq = s.seq := rfl
@[simp] theorem State.setDst_ack (s : State) (v : Half) : (s.setDst v).ack = s.ack := rfl
@[simp] theorem State.setDst_flg (s : State) (v : Half) : (s.setDst v).flg = s.flg := rfl
@[simp] theorem State.setDst_win (s : State) (v : Half) : (s.setDst v).win = s.win := rfl
@[simp] theorem State.setDst_len (s : State) (v : Half) : (s.setDst v).len = s.len := rfl
@[simp] theorem State.setDst_buflen (s : State) (v : Half) : (s.setDst v).buflen = s.buflen := rfl
@[simp] theorem State.setDst_plen (s : State) (v : Half) : (s.setDst v).plen = s.plen := rfl
@[simp] theorem State.setDst_a (s : State) (v : Half) : (s.setDst v).a = s.a := rfl
@[simp] theorem State.setDst_b (s : State) (v : Half) : (s.setDst v).b = s.b := rfl
@[simp] theorem State.setDst_r (s : State) (v : Half) : (s.setDst v).r = s.r := rfl
@[simp] theorem State.setDst_y (s : State) (v : Half) : (s.setDst v).y = s.y := rfl
@[simp] theorem State.setDst_hdr (s : State) (v : Half) : (s.setDst v).hdr = s.hdr := rfl
@[simp] theorem State.setDst_cmd (s : State) (v : Half) : (s.setDst v).cmd = s.cmd := rfl
@[simp] theorem State.setDst_okFlag (s : State) (v : Half) : (s.setDst v).okFlag = s.okFlag := rfl
@[simp] theorem State.setDst_validFlag (s : State) (v : Half) : (s.setDst v).validFlag = s.validFlag := rfl
@[simp] theorem State.setDst_eqFlag (s : State) (v : Half) : (s.setDst v).eqFlag = s.eqFlag := rfl
@[simp] theorem State.setDst_fault (s : State) (v : Half) : (s.setDst v).fault = s.fault := rfl
@[simp] theorem State.setDst_script (s : State) (v : Half) : (s.setDst v).script = s.script := rfl
@[simp] theorem State.setDst_observed (s : State) (v : Half) : (s.setDst v).observed = s.observed := rfl

/-! ### setSeq -/

@[simp] theorem State.setSeq_src (s : State) (v : Word) : (s.setSeq v).src = s.src := rfl
@[simp] theorem State.setSeq_dst (s : State) (v : Word) : (s.setSeq v).dst = s.dst := rfl
@[simp] theorem State.setSeq_seq (s : State) (v : Word) : (s.setSeq v).seq = v := rfl
@[simp] theorem State.setSeq_ack (s : State) (v : Word) : (s.setSeq v).ack = s.ack := rfl
@[simp] theorem State.setSeq_flg (s : State) (v : Word) : (s.setSeq v).flg = s.flg := rfl
@[simp] theorem State.setSeq_win (s : State) (v : Word) : (s.setSeq v).win = s.win := rfl
@[simp] theorem State.setSeq_len (s : State) (v : Word) : (s.setSeq v).len = s.len := rfl
@[simp] theorem State.setSeq_buflen (s : State) (v : Word) : (s.setSeq v).buflen = s.buflen := rfl
@[simp] theorem State.setSeq_plen (s : State) (v : Word) : (s.setSeq v).plen = s.plen := rfl
@[simp] theorem State.setSeq_a (s : State) (v : Word) : (s.setSeq v).a = s.a := rfl
@[simp] theorem State.setSeq_b (s : State) (v : Word) : (s.setSeq v).b = s.b := rfl
@[simp] theorem State.setSeq_r (s : State) (v : Word) : (s.setSeq v).r = s.r := rfl
@[simp] theorem State.setSeq_y (s : State) (v : Word) : (s.setSeq v).y = s.y := rfl
@[simp] theorem State.setSeq_hdr (s : State) (v : Word) : (s.setSeq v).hdr = s.hdr := rfl
@[simp] theorem State.setSeq_cmd (s : State) (v : Word) : (s.setSeq v).cmd = s.cmd := rfl
@[simp] theorem State.setSeq_okFlag (s : State) (v : Word) : (s.setSeq v).okFlag = s.okFlag := rfl
@[simp] theorem State.setSeq_validFlag (s : State) (v : Word) : (s.setSeq v).validFlag = s.validFlag := rfl
@[simp] theorem State.setSeq_eqFlag (s : State) (v : Word) : (s.setSeq v).eqFlag = s.eqFlag := rfl
@[simp] theorem State.setSeq_fault (s : State) (v : Word) : (s.setSeq v).fault = s.fault := rfl
@[simp] theorem State.setSeq_script (s : State) (v : Word) : (s.setSeq v).script = s.script := rfl
@[simp] theorem State.setSeq_observed (s : State) (v : Word) : (s.setSeq v).observed = s.observed := rfl

/-! ### setAck -/

@[simp] theorem State.setAck_src (s : State) (v : Word) : (s.setAck v).src = s.src := rfl
@[simp] theorem State.setAck_dst (s : State) (v : Word) : (s.setAck v).dst = s.dst := rfl
@[simp] theorem State.setAck_seq (s : State) (v : Word) : (s.setAck v).seq = s.seq := rfl
@[simp] theorem State.setAck_ack (s : State) (v : Word) : (s.setAck v).ack = v := rfl
@[simp] theorem State.setAck_flg (s : State) (v : Word) : (s.setAck v).flg = s.flg := rfl
@[simp] theorem State.setAck_win (s : State) (v : Word) : (s.setAck v).win = s.win := rfl
@[simp] theorem State.setAck_len (s : State) (v : Word) : (s.setAck v).len = s.len := rfl
@[simp] theorem State.setAck_buflen (s : State) (v : Word) : (s.setAck v).buflen = s.buflen := rfl
@[simp] theorem State.setAck_plen (s : State) (v : Word) : (s.setAck v).plen = s.plen := rfl
@[simp] theorem State.setAck_a (s : State) (v : Word) : (s.setAck v).a = s.a := rfl
@[simp] theorem State.setAck_b (s : State) (v : Word) : (s.setAck v).b = s.b := rfl
@[simp] theorem State.setAck_r (s : State) (v : Word) : (s.setAck v).r = s.r := rfl
@[simp] theorem State.setAck_y (s : State) (v : Word) : (s.setAck v).y = s.y := rfl
@[simp] theorem State.setAck_hdr (s : State) (v : Word) : (s.setAck v).hdr = s.hdr := rfl
@[simp] theorem State.setAck_cmd (s : State) (v : Word) : (s.setAck v).cmd = s.cmd := rfl
@[simp] theorem State.setAck_okFlag (s : State) (v : Word) : (s.setAck v).okFlag = s.okFlag := rfl
@[simp] theorem State.setAck_validFlag (s : State) (v : Word) : (s.setAck v).validFlag = s.validFlag := rfl
@[simp] theorem State.setAck_eqFlag (s : State) (v : Word) : (s.setAck v).eqFlag = s.eqFlag := rfl
@[simp] theorem State.setAck_fault (s : State) (v : Word) : (s.setAck v).fault = s.fault := rfl
@[simp] theorem State.setAck_script (s : State) (v : Word) : (s.setAck v).script = s.script := rfl
@[simp] theorem State.setAck_observed (s : State) (v : Word) : (s.setAck v).observed = s.observed := rfl

/-! ### setFlg -/

@[simp] theorem State.setFlg_src (s : State) (v : Byte) : (s.setFlg v).src = s.src := rfl
@[simp] theorem State.setFlg_dst (s : State) (v : Byte) : (s.setFlg v).dst = s.dst := rfl
@[simp] theorem State.setFlg_seq (s : State) (v : Byte) : (s.setFlg v).seq = s.seq := rfl
@[simp] theorem State.setFlg_ack (s : State) (v : Byte) : (s.setFlg v).ack = s.ack := rfl
@[simp] theorem State.setFlg_flg (s : State) (v : Byte) : (s.setFlg v).flg = v := rfl
@[simp] theorem State.setFlg_win (s : State) (v : Byte) : (s.setFlg v).win = s.win := rfl
@[simp] theorem State.setFlg_len (s : State) (v : Byte) : (s.setFlg v).len = s.len := rfl
@[simp] theorem State.setFlg_buflen (s : State) (v : Byte) : (s.setFlg v).buflen = s.buflen := rfl
@[simp] theorem State.setFlg_plen (s : State) (v : Byte) : (s.setFlg v).plen = s.plen := rfl
@[simp] theorem State.setFlg_a (s : State) (v : Byte) : (s.setFlg v).a = s.a := rfl
@[simp] theorem State.setFlg_b (s : State) (v : Byte) : (s.setFlg v).b = s.b := rfl
@[simp] theorem State.setFlg_r (s : State) (v : Byte) : (s.setFlg v).r = s.r := rfl
@[simp] theorem State.setFlg_y (s : State) (v : Byte) : (s.setFlg v).y = s.y := rfl
@[simp] theorem State.setFlg_hdr (s : State) (v : Byte) : (s.setFlg v).hdr = s.hdr := rfl
@[simp] theorem State.setFlg_cmd (s : State) (v : Byte) : (s.setFlg v).cmd = s.cmd := rfl
@[simp] theorem State.setFlg_okFlag (s : State) (v : Byte) : (s.setFlg v).okFlag = s.okFlag := rfl
@[simp] theorem State.setFlg_validFlag (s : State) (v : Byte) : (s.setFlg v).validFlag = s.validFlag := rfl
@[simp] theorem State.setFlg_eqFlag (s : State) (v : Byte) : (s.setFlg v).eqFlag = s.eqFlag := rfl
@[simp] theorem State.setFlg_fault (s : State) (v : Byte) : (s.setFlg v).fault = s.fault := rfl
@[simp] theorem State.setFlg_script (s : State) (v : Byte) : (s.setFlg v).script = s.script := rfl
@[simp] theorem State.setFlg_observed (s : State) (v : Byte) : (s.setFlg v).observed = s.observed := rfl

/-! ### setWin -/

@[simp] theorem State.setWin_src (s : State) (v : Half) : (s.setWin v).src = s.src := rfl
@[simp] theorem State.setWin_dst (s : State) (v : Half) : (s.setWin v).dst = s.dst := rfl
@[simp] theorem State.setWin_seq (s : State) (v : Half) : (s.setWin v).seq = s.seq := rfl
@[simp] theorem State.setWin_ack (s : State) (v : Half) : (s.setWin v).ack = s.ack := rfl
@[simp] theorem State.setWin_flg (s : State) (v : Half) : (s.setWin v).flg = s.flg := rfl
@[simp] theorem State.setWin_win (s : State) (v : Half) : (s.setWin v).win = v := rfl
@[simp] theorem State.setWin_len (s : State) (v : Half) : (s.setWin v).len = s.len := rfl
@[simp] theorem State.setWin_buflen (s : State) (v : Half) : (s.setWin v).buflen = s.buflen := rfl
@[simp] theorem State.setWin_plen (s : State) (v : Half) : (s.setWin v).plen = s.plen := rfl
@[simp] theorem State.setWin_a (s : State) (v : Half) : (s.setWin v).a = s.a := rfl
@[simp] theorem State.setWin_b (s : State) (v : Half) : (s.setWin v).b = s.b := rfl
@[simp] theorem State.setWin_r (s : State) (v : Half) : (s.setWin v).r = s.r := rfl
@[simp] theorem State.setWin_y (s : State) (v : Half) : (s.setWin v).y = s.y := rfl
@[simp] theorem State.setWin_hdr (s : State) (v : Half) : (s.setWin v).hdr = s.hdr := rfl
@[simp] theorem State.setWin_cmd (s : State) (v : Half) : (s.setWin v).cmd = s.cmd := rfl
@[simp] theorem State.setWin_okFlag (s : State) (v : Half) : (s.setWin v).okFlag = s.okFlag := rfl
@[simp] theorem State.setWin_validFlag (s : State) (v : Half) : (s.setWin v).validFlag = s.validFlag := rfl
@[simp] theorem State.setWin_eqFlag (s : State) (v : Half) : (s.setWin v).eqFlag = s.eqFlag := rfl
@[simp] theorem State.setWin_fault (s : State) (v : Half) : (s.setWin v).fault = s.fault := rfl
@[simp] theorem State.setWin_script (s : State) (v : Half) : (s.setWin v).script = s.script := rfl
@[simp] theorem State.setWin_observed (s : State) (v : Half) : (s.setWin v).observed = s.observed := rfl

/-! ### setLen -/

@[simp] theorem State.setLen_src (s : State) (v : Word) : (s.setLen v).src = s.src := rfl
@[simp] theorem State.setLen_dst (s : State) (v : Word) : (s.setLen v).dst = s.dst := rfl
@[simp] theorem State.setLen_seq (s : State) (v : Word) : (s.setLen v).seq = s.seq := rfl
@[simp] theorem State.setLen_ack (s : State) (v : Word) : (s.setLen v).ack = s.ack := rfl
@[simp] theorem State.setLen_flg (s : State) (v : Word) : (s.setLen v).flg = s.flg := rfl
@[simp] theorem State.setLen_win (s : State) (v : Word) : (s.setLen v).win = s.win := rfl
@[simp] theorem State.setLen_len (s : State) (v : Word) : (s.setLen v).len = v := rfl
@[simp] theorem State.setLen_buflen (s : State) (v : Word) : (s.setLen v).buflen = s.buflen := rfl
@[simp] theorem State.setLen_plen (s : State) (v : Word) : (s.setLen v).plen = s.plen := rfl
@[simp] theorem State.setLen_a (s : State) (v : Word) : (s.setLen v).a = s.a := rfl
@[simp] theorem State.setLen_b (s : State) (v : Word) : (s.setLen v).b = s.b := rfl
@[simp] theorem State.setLen_r (s : State) (v : Word) : (s.setLen v).r = s.r := rfl
@[simp] theorem State.setLen_y (s : State) (v : Word) : (s.setLen v).y = s.y := rfl
@[simp] theorem State.setLen_hdr (s : State) (v : Word) : (s.setLen v).hdr = s.hdr := rfl
@[simp] theorem State.setLen_cmd (s : State) (v : Word) : (s.setLen v).cmd = s.cmd := rfl
@[simp] theorem State.setLen_okFlag (s : State) (v : Word) : (s.setLen v).okFlag = s.okFlag := rfl
@[simp] theorem State.setLen_validFlag (s : State) (v : Word) : (s.setLen v).validFlag = s.validFlag := rfl
@[simp] theorem State.setLen_eqFlag (s : State) (v : Word) : (s.setLen v).eqFlag = s.eqFlag := rfl
@[simp] theorem State.setLen_fault (s : State) (v : Word) : (s.setLen v).fault = s.fault := rfl
@[simp] theorem State.setLen_script (s : State) (v : Word) : (s.setLen v).script = s.script := rfl
@[simp] theorem State.setLen_observed (s : State) (v : Word) : (s.setLen v).observed = s.observed := rfl

/-! ### setBuflen -/

@[simp] theorem State.setBuflen_src (s : State) (v : Word) : (s.setBuflen v).src = s.src := rfl
@[simp] theorem State.setBuflen_dst (s : State) (v : Word) : (s.setBuflen v).dst = s.dst := rfl
@[simp] theorem State.setBuflen_seq (s : State) (v : Word) : (s.setBuflen v).seq = s.seq := rfl
@[simp] theorem State.setBuflen_ack (s : State) (v : Word) : (s.setBuflen v).ack = s.ack := rfl
@[simp] theorem State.setBuflen_flg (s : State) (v : Word) : (s.setBuflen v).flg = s.flg := rfl
@[simp] theorem State.setBuflen_win (s : State) (v : Word) : (s.setBuflen v).win = s.win := rfl
@[simp] theorem State.setBuflen_len (s : State) (v : Word) : (s.setBuflen v).len = s.len := rfl
@[simp] theorem State.setBuflen_buflen (s : State) (v : Word) : (s.setBuflen v).buflen = v := rfl
@[simp] theorem State.setBuflen_plen (s : State) (v : Word) : (s.setBuflen v).plen = s.plen := rfl
@[simp] theorem State.setBuflen_a (s : State) (v : Word) : (s.setBuflen v).a = s.a := rfl
@[simp] theorem State.setBuflen_b (s : State) (v : Word) : (s.setBuflen v).b = s.b := rfl
@[simp] theorem State.setBuflen_r (s : State) (v : Word) : (s.setBuflen v).r = s.r := rfl
@[simp] theorem State.setBuflen_y (s : State) (v : Word) : (s.setBuflen v).y = s.y := rfl
@[simp] theorem State.setBuflen_hdr (s : State) (v : Word) : (s.setBuflen v).hdr = s.hdr := rfl
@[simp] theorem State.setBuflen_cmd (s : State) (v : Word) : (s.setBuflen v).cmd = s.cmd := rfl
@[simp] theorem State.setBuflen_okFlag (s : State) (v : Word) : (s.setBuflen v).okFlag = s.okFlag := rfl
@[simp] theorem State.setBuflen_validFlag (s : State) (v : Word) : (s.setBuflen v).validFlag = s.validFlag := rfl
@[simp] theorem State.setBuflen_eqFlag (s : State) (v : Word) : (s.setBuflen v).eqFlag = s.eqFlag := rfl
@[simp] theorem State.setBuflen_fault (s : State) (v : Word) : (s.setBuflen v).fault = s.fault := rfl
@[simp] theorem State.setBuflen_script (s : State) (v : Word) : (s.setBuflen v).script = s.script := rfl
@[simp] theorem State.setBuflen_observed (s : State) (v : Word) : (s.setBuflen v).observed = s.observed := rfl

/-! ### setPlen -/

@[simp] theorem State.setPlen_src (s : State) (v : Word) : (s.setPlen v).src = s.src := rfl
@[simp] theorem State.setPlen_dst (s : State) (v : Word) : (s.setPlen v).dst = s.dst := rfl
@[simp] theorem State.setPlen_seq (s : State) (v : Word) : (s.setPlen v).seq = s.seq := rfl
@[simp] theorem State.setPlen_ack (s : State) (v : Word) : (s.setPlen v).ack = s.ack := rfl
@[simp] theorem State.setPlen_flg (s : State) (v : Word) : (s.setPlen v).flg = s.flg := rfl
@[simp] theorem State.setPlen_win (s : State) (v : Word) : (s.setPlen v).win = s.win := rfl
@[simp] theorem State.setPlen_len (s : State) (v : Word) : (s.setPlen v).len = s.len := rfl
@[simp] theorem State.setPlen_buflen (s : State) (v : Word) : (s.setPlen v).buflen = s.buflen := rfl
@[simp] theorem State.setPlen_plen (s : State) (v : Word) : (s.setPlen v).plen = v := rfl
@[simp] theorem State.setPlen_a (s : State) (v : Word) : (s.setPlen v).a = s.a := rfl
@[simp] theorem State.setPlen_b (s : State) (v : Word) : (s.setPlen v).b = s.b := rfl
@[simp] theorem State.setPlen_r (s : State) (v : Word) : (s.setPlen v).r = s.r := rfl
@[simp] theorem State.setPlen_y (s : State) (v : Word) : (s.setPlen v).y = s.y := rfl
@[simp] theorem State.setPlen_hdr (s : State) (v : Word) : (s.setPlen v).hdr = s.hdr := rfl
@[simp] theorem State.setPlen_cmd (s : State) (v : Word) : (s.setPlen v).cmd = s.cmd := rfl
@[simp] theorem State.setPlen_okFlag (s : State) (v : Word) : (s.setPlen v).okFlag = s.okFlag := rfl
@[simp] theorem State.setPlen_validFlag (s : State) (v : Word) : (s.setPlen v).validFlag = s.validFlag := rfl
@[simp] theorem State.setPlen_eqFlag (s : State) (v : Word) : (s.setPlen v).eqFlag = s.eqFlag := rfl
@[simp] theorem State.setPlen_fault (s : State) (v : Word) : (s.setPlen v).fault = s.fault := rfl
@[simp] theorem State.setPlen_script (s : State) (v : Word) : (s.setPlen v).script = s.script := rfl
@[simp] theorem State.setPlen_observed (s : State) (v : Word) : (s.setPlen v).observed = s.observed := rfl

/-! ### setA -/

@[simp] theorem State.setA_src (s : State) (v : Word) : (s.setA v).src = s.src := rfl
@[simp] theorem State.setA_dst (s : State) (v : Word) : (s.setA v).dst = s.dst := rfl
@[simp] theorem State.setA_seq (s : State) (v : Word) : (s.setA v).seq = s.seq := rfl
@[simp] theorem State.setA_ack (s : State) (v : Word) : (s.setA v).ack = s.ack := rfl
@[simp] theorem State.setA_flg (s : State) (v : Word) : (s.setA v).flg = s.flg := rfl
@[simp] theorem State.setA_win (s : State) (v : Word) : (s.setA v).win = s.win := rfl
@[simp] theorem State.setA_len (s : State) (v : Word) : (s.setA v).len = s.len := rfl
@[simp] theorem State.setA_buflen (s : State) (v : Word) : (s.setA v).buflen = s.buflen := rfl
@[simp] theorem State.setA_plen (s : State) (v : Word) : (s.setA v).plen = s.plen := rfl
@[simp] theorem State.setA_a (s : State) (v : Word) : (s.setA v).a = v := rfl
@[simp] theorem State.setA_b (s : State) (v : Word) : (s.setA v).b = s.b := rfl
@[simp] theorem State.setA_r (s : State) (v : Word) : (s.setA v).r = s.r := rfl
@[simp] theorem State.setA_y (s : State) (v : Word) : (s.setA v).y = s.y := rfl
@[simp] theorem State.setA_hdr (s : State) (v : Word) : (s.setA v).hdr = s.hdr := rfl
@[simp] theorem State.setA_cmd (s : State) (v : Word) : (s.setA v).cmd = s.cmd := rfl
@[simp] theorem State.setA_okFlag (s : State) (v : Word) : (s.setA v).okFlag = s.okFlag := rfl
@[simp] theorem State.setA_validFlag (s : State) (v : Word) : (s.setA v).validFlag = s.validFlag := rfl
@[simp] theorem State.setA_eqFlag (s : State) (v : Word) : (s.setA v).eqFlag = s.eqFlag := rfl
@[simp] theorem State.setA_fault (s : State) (v : Word) : (s.setA v).fault = s.fault := rfl
@[simp] theorem State.setA_script (s : State) (v : Word) : (s.setA v).script = s.script := rfl
@[simp] theorem State.setA_observed (s : State) (v : Word) : (s.setA v).observed = s.observed := rfl

/-! ### setB -/

@[simp] theorem State.setB_src (s : State) (v : Word) : (s.setB v).src = s.src := rfl
@[simp] theorem State.setB_dst (s : State) (v : Word) : (s.setB v).dst = s.dst := rfl
@[simp] theorem State.setB_seq (s : State) (v : Word) : (s.setB v).seq = s.seq := rfl
@[simp] theorem State.setB_ack (s : State) (v : Word) : (s.setB v).ack = s.ack := rfl
@[simp] theorem State.setB_flg (s : State) (v : Word) : (s.setB v).flg = s.flg := rfl
@[simp] theorem State.setB_win (s : State) (v : Word) : (s.setB v).win = s.win := rfl
@[simp] theorem State.setB_len (s : State) (v : Word) : (s.setB v).len = s.len := rfl
@[simp] theorem State.setB_buflen (s : State) (v : Word) : (s.setB v).buflen = s.buflen := rfl
@[simp] theorem State.setB_plen (s : State) (v : Word) : (s.setB v).plen = s.plen := rfl
@[simp] theorem State.setB_a (s : State) (v : Word) : (s.setB v).a = s.a := rfl
@[simp] theorem State.setB_b (s : State) (v : Word) : (s.setB v).b = v := rfl
@[simp] theorem State.setB_r (s : State) (v : Word) : (s.setB v).r = s.r := rfl
@[simp] theorem State.setB_y (s : State) (v : Word) : (s.setB v).y = s.y := rfl
@[simp] theorem State.setB_hdr (s : State) (v : Word) : (s.setB v).hdr = s.hdr := rfl
@[simp] theorem State.setB_cmd (s : State) (v : Word) : (s.setB v).cmd = s.cmd := rfl
@[simp] theorem State.setB_okFlag (s : State) (v : Word) : (s.setB v).okFlag = s.okFlag := rfl
@[simp] theorem State.setB_validFlag (s : State) (v : Word) : (s.setB v).validFlag = s.validFlag := rfl
@[simp] theorem State.setB_eqFlag (s : State) (v : Word) : (s.setB v).eqFlag = s.eqFlag := rfl
@[simp] theorem State.setB_fault (s : State) (v : Word) : (s.setB v).fault = s.fault := rfl
@[simp] theorem State.setB_script (s : State) (v : Word) : (s.setB v).script = s.script := rfl
@[simp] theorem State.setB_observed (s : State) (v : Word) : (s.setB v).observed = s.observed := rfl

/-! ### setR -/

@[simp] theorem State.setR_src (s : State) (v : Word) : (s.setR v).src = s.src := rfl
@[simp] theorem State.setR_dst (s : State) (v : Word) : (s.setR v).dst = s.dst := rfl
@[simp] theorem State.setR_seq (s : State) (v : Word) : (s.setR v).seq = s.seq := rfl
@[simp] theorem State.setR_ack (s : State) (v : Word) : (s.setR v).ack = s.ack := rfl
@[simp] theorem State.setR_flg (s : State) (v : Word) : (s.setR v).flg = s.flg := rfl
@[simp] theorem State.setR_win (s : State) (v : Word) : (s.setR v).win = s.win := rfl
@[simp] theorem State.setR_len (s : State) (v : Word) : (s.setR v).len = s.len := rfl
@[simp] theorem State.setR_buflen (s : State) (v : Word) : (s.setR v).buflen = s.buflen := rfl
@[simp] theorem State.setR_plen (s : State) (v : Word) : (s.setR v).plen = s.plen := rfl
@[simp] theorem State.setR_a (s : State) (v : Word) : (s.setR v).a = s.a := rfl
@[simp] theorem State.setR_b (s : State) (v : Word) : (s.setR v).b = s.b := rfl
@[simp] theorem State.setR_r (s : State) (v : Word) : (s.setR v).r = v := rfl
@[simp] theorem State.setR_y (s : State) (v : Word) : (s.setR v).y = s.y := rfl
@[simp] theorem State.setR_hdr (s : State) (v : Word) : (s.setR v).hdr = s.hdr := rfl
@[simp] theorem State.setR_cmd (s : State) (v : Word) : (s.setR v).cmd = s.cmd := rfl
@[simp] theorem State.setR_okFlag (s : State) (v : Word) : (s.setR v).okFlag = s.okFlag := rfl
@[simp] theorem State.setR_validFlag (s : State) (v : Word) : (s.setR v).validFlag = s.validFlag := rfl
@[simp] theorem State.setR_eqFlag (s : State) (v : Word) : (s.setR v).eqFlag = s.eqFlag := rfl
@[simp] theorem State.setR_fault (s : State) (v : Word) : (s.setR v).fault = s.fault := rfl
@[simp] theorem State.setR_script (s : State) (v : Word) : (s.setR v).script = s.script := rfl
@[simp] theorem State.setR_observed (s : State) (v : Word) : (s.setR v).observed = s.observed := rfl

/-! ### setY -/

@[simp] theorem State.setY_src (s : State) (v : Word) : (s.setY v).src = s.src := rfl
@[simp] theorem State.setY_dst (s : State) (v : Word) : (s.setY v).dst = s.dst := rfl
@[simp] theorem State.setY_seq (s : State) (v : Word) : (s.setY v).seq = s.seq := rfl
@[simp] theorem State.setY_ack (s : State) (v : Word) : (s.setY v).ack = s.ack := rfl
@[simp] theorem State.setY_flg (s : State) (v : Word) : (s.setY v).flg = s.flg := rfl
@[simp] theorem State.setY_win (s : State) (v : Word) : (s.setY v).win = s.win := rfl
@[simp] theorem State.setY_len (s : State) (v : Word) : (s.setY v).len = s.len := rfl
@[simp] theorem State.setY_buflen (s : State) (v : Word) : (s.setY v).buflen = s.buflen := rfl
@[simp] theorem State.setY_plen (s : State) (v : Word) : (s.setY v).plen = s.plen := rfl
@[simp] theorem State.setY_a (s : State) (v : Word) : (s.setY v).a = s.a := rfl
@[simp] theorem State.setY_b (s : State) (v : Word) : (s.setY v).b = s.b := rfl
@[simp] theorem State.setY_r (s : State) (v : Word) : (s.setY v).r = s.r := rfl
@[simp] theorem State.setY_y (s : State) (v : Word) : (s.setY v).y = v := rfl
@[simp] theorem State.setY_hdr (s : State) (v : Word) : (s.setY v).hdr = s.hdr := rfl
@[simp] theorem State.setY_cmd (s : State) (v : Word) : (s.setY v).cmd = s.cmd := rfl
@[simp] theorem State.setY_okFlag (s : State) (v : Word) : (s.setY v).okFlag = s.okFlag := rfl
@[simp] theorem State.setY_validFlag (s : State) (v : Word) : (s.setY v).validFlag = s.validFlag := rfl
@[simp] theorem State.setY_eqFlag (s : State) (v : Word) : (s.setY v).eqFlag = s.eqFlag := rfl
@[simp] theorem State.setY_fault (s : State) (v : Word) : (s.setY v).fault = s.fault := rfl
@[simp] theorem State.setY_script (s : State) (v : Word) : (s.setY v).script = s.script := rfl
@[simp] theorem State.setY_observed (s : State) (v : Word) : (s.setY v).observed = s.observed := rfl

/-! ### setHdr -/

@[simp] theorem State.setHdr_src (s : State) (v : Header) : (s.setHdr v).src = s.src := rfl
@[simp] theorem State.setHdr_dst (s : State) (v : Header) : (s.setHdr v).dst = s.dst := rfl
@[simp] theorem State.setHdr_seq (s : State) (v : Header) : (s.setHdr v).seq = s.seq := rfl
@[simp] theorem State.setHdr_ack (s : State) (v : Header) : (s.setHdr v).ack = s.ack := rfl
@[simp] theorem State.setHdr_flg (s : State) (v : Header) : (s.setHdr v).flg = s.flg := rfl
@[simp] theorem State.setHdr_win (s : State) (v : Header) : (s.setHdr v).win = s.win := rfl
@[simp] theorem State.setHdr_len (s : State) (v : Header) : (s.setHdr v).len = s.len := rfl
@[simp] theorem State.setHdr_buflen (s : State) (v : Header) : (s.setHdr v).buflen = s.buflen := rfl
@[simp] theorem State.setHdr_plen (s : State) (v : Header) : (s.setHdr v).plen = s.plen := rfl
@[simp] theorem State.setHdr_a (s : State) (v : Header) : (s.setHdr v).a = s.a := rfl
@[simp] theorem State.setHdr_b (s : State) (v : Header) : (s.setHdr v).b = s.b := rfl
@[simp] theorem State.setHdr_r (s : State) (v : Header) : (s.setHdr v).r = s.r := rfl
@[simp] theorem State.setHdr_y (s : State) (v : Header) : (s.setHdr v).y = s.y := rfl
@[simp] theorem State.setHdr_hdr (s : State) (v : Header) : (s.setHdr v).hdr = v := rfl
@[simp] theorem State.setHdr_cmd (s : State) (v : Header) : (s.setHdr v).cmd = s.cmd := rfl
@[simp] theorem State.setHdr_okFlag (s : State) (v : Header) : (s.setHdr v).okFlag = s.okFlag := rfl
@[simp] theorem State.setHdr_validFlag (s : State) (v : Header) : (s.setHdr v).validFlag = s.validFlag := rfl
@[simp] theorem State.setHdr_eqFlag (s : State) (v : Header) : (s.setHdr v).eqFlag = s.eqFlag := rfl
@[simp] theorem State.setHdr_fault (s : State) (v : Header) : (s.setHdr v).fault = s.fault := rfl
@[simp] theorem State.setHdr_script (s : State) (v : Header) : (s.setHdr v).script = s.script := rfl
@[simp] theorem State.setHdr_observed (s : State) (v : Header) : (s.setHdr v).observed = s.observed := rfl

/-! ### setCmd -/

@[simp] theorem State.setCmd_src (s : State) (v : Word) : (s.setCmd v).src = s.src := rfl
@[simp] theorem State.setCmd_dst (s : State) (v : Word) : (s.setCmd v).dst = s.dst := rfl
@[simp] theorem State.setCmd_seq (s : State) (v : Word) : (s.setCmd v).seq = s.seq := rfl
@[simp] theorem State.setCmd_ack (s : State) (v : Word) : (s.setCmd v).ack = s.ack := rfl
@[simp] theorem State.setCmd_flg (s : State) (v : Word) : (s.setCmd v).flg = s.flg := rfl
@[simp] theorem State.setCmd_win (s : State) (v : Word) : (s.setCmd v).win = s.win := rfl
@[simp] theorem State.setCmd_len (s : State) (v : Word) : (s.setCmd v).len = s.len := rfl
@[simp] theorem State.setCmd_buflen (s : State) (v : Word) : (s.setCmd v).buflen = s.buflen := rfl
@[simp] theorem State.setCmd_plen (s : State) (v : Word) : (s.setCmd v).plen = s.plen := rfl
@[simp] theorem State.setCmd_a (s : State) (v : Word) : (s.setCmd v).a = s.a := rfl
@[simp] theorem State.setCmd_b (s : State) (v : Word) : (s.setCmd v).b = s.b := rfl
@[simp] theorem State.setCmd_r (s : State) (v : Word) : (s.setCmd v).r = s.r := rfl
@[simp] theorem State.setCmd_y (s : State) (v : Word) : (s.setCmd v).y = s.y := rfl
@[simp] theorem State.setCmd_hdr (s : State) (v : Word) : (s.setCmd v).hdr = s.hdr := rfl
@[simp] theorem State.setCmd_cmd (s : State) (v : Word) : (s.setCmd v).cmd = v := rfl
@[simp] theorem State.setCmd_okFlag (s : State) (v : Word) : (s.setCmd v).okFlag = s.okFlag := rfl
@[simp] theorem State.setCmd_validFlag (s : State) (v : Word) : (s.setCmd v).validFlag = s.validFlag := rfl
@[simp] theorem State.setCmd_eqFlag (s : State) (v : Word) : (s.setCmd v).eqFlag = s.eqFlag := rfl
@[simp] theorem State.setCmd_fault (s : State) (v : Word) : (s.setCmd v).fault = s.fault := rfl
@[simp] theorem State.setCmd_script (s : State) (v : Word) : (s.setCmd v).script = s.script := rfl
@[simp] theorem State.setCmd_observed (s : State) (v : Word) : (s.setCmd v).observed = s.observed := rfl

/-! ### setOkFlag -/

@[simp] theorem State.setOkFlag_src (s : State) (v : Bool) : (s.setOkFlag v).src = s.src := rfl
@[simp] theorem State.setOkFlag_dst (s : State) (v : Bool) : (s.setOkFlag v).dst = s.dst := rfl
@[simp] theorem State.setOkFlag_seq (s : State) (v : Bool) : (s.setOkFlag v).seq = s.seq := rfl
@[simp] theorem State.setOkFlag_ack (s : State) (v : Bool) : (s.setOkFlag v).ack = s.ack := rfl
@[simp] theorem State.setOkFlag_flg (s : State) (v : Bool) : (s.setOkFlag v).flg = s.flg := rfl
@[simp] theorem State.setOkFlag_win (s : State) (v : Bool) : (s.setOkFlag v).win = s.win := rfl
@[simp] theorem State.setOkFlag_len (s : State) (v : Bool) : (s.setOkFlag v).len = s.len := rfl
@[simp] theorem State.setOkFlag_buflen (s : State) (v : Bool) : (s.setOkFlag v).buflen = s.buflen := rfl
@[simp] theorem State.setOkFlag_plen (s : State) (v : Bool) : (s.setOkFlag v).plen = s.plen := rfl
@[simp] theorem State.setOkFlag_a (s : State) (v : Bool) : (s.setOkFlag v).a = s.a := rfl
@[simp] theorem State.setOkFlag_b (s : State) (v : Bool) : (s.setOkFlag v).b = s.b := rfl
@[simp] theorem State.setOkFlag_r (s : State) (v : Bool) : (s.setOkFlag v).r = s.r := rfl
@[simp] theorem State.setOkFlag_y (s : State) (v : Bool) : (s.setOkFlag v).y = s.y := rfl
@[simp] theorem State.setOkFlag_hdr (s : State) (v : Bool) : (s.setOkFlag v).hdr = s.hdr := rfl
@[simp] theorem State.setOkFlag_cmd (s : State) (v : Bool) : (s.setOkFlag v).cmd = s.cmd := rfl
@[simp] theorem State.setOkFlag_okFlag (s : State) (v : Bool) : (s.setOkFlag v).okFlag = v := rfl
@[simp] theorem State.setOkFlag_validFlag (s : State) (v : Bool) : (s.setOkFlag v).validFlag = s.validFlag := rfl
@[simp] theorem State.setOkFlag_eqFlag (s : State) (v : Bool) : (s.setOkFlag v).eqFlag = s.eqFlag := rfl
@[simp] theorem State.setOkFlag_fault (s : State) (v : Bool) : (s.setOkFlag v).fault = s.fault := rfl
@[simp] theorem State.setOkFlag_script (s : State) (v : Bool) : (s.setOkFlag v).script = s.script := rfl
@[simp] theorem State.setOkFlag_observed (s : State) (v : Bool) : (s.setOkFlag v).observed = s.observed := rfl

/-! ### setValidFlag -/

@[simp] theorem State.setValidFlag_src (s : State) (v : Bool) : (s.setValidFlag v).src = s.src := rfl
@[simp] theorem State.setValidFlag_dst (s : State) (v : Bool) : (s.setValidFlag v).dst = s.dst := rfl
@[simp] theorem State.setValidFlag_seq (s : State) (v : Bool) : (s.setValidFlag v).seq = s.seq := rfl
@[simp] theorem State.setValidFlag_ack (s : State) (v : Bool) : (s.setValidFlag v).ack = s.ack := rfl
@[simp] theorem State.setValidFlag_flg (s : State) (v : Bool) : (s.setValidFlag v).flg = s.flg := rfl
@[simp] theorem State.setValidFlag_win (s : State) (v : Bool) : (s.setValidFlag v).win = s.win := rfl
@[simp] theorem State.setValidFlag_len (s : State) (v : Bool) : (s.setValidFlag v).len = s.len := rfl
@[simp] theorem State.setValidFlag_buflen (s : State) (v : Bool) : (s.setValidFlag v).buflen = s.buflen := rfl
@[simp] theorem State.setValidFlag_plen (s : State) (v : Bool) : (s.setValidFlag v).plen = s.plen := rfl
@[simp] theorem State.setValidFlag_a (s : State) (v : Bool) : (s.setValidFlag v).a = s.a := rfl
@[simp] theorem State.setValidFlag_b (s : State) (v : Bool) : (s.setValidFlag v).b = s.b := rfl
@[simp] theorem State.setValidFlag_r (s : State) (v : Bool) : (s.setValidFlag v).r = s.r := rfl
@[simp] theorem State.setValidFlag_y (s : State) (v : Bool) : (s.setValidFlag v).y = s.y := rfl
@[simp] theorem State.setValidFlag_hdr (s : State) (v : Bool) : (s.setValidFlag v).hdr = s.hdr := rfl
@[simp] theorem State.setValidFlag_cmd (s : State) (v : Bool) : (s.setValidFlag v).cmd = s.cmd := rfl
@[simp] theorem State.setValidFlag_okFlag (s : State) (v : Bool) : (s.setValidFlag v).okFlag = s.okFlag := rfl
@[simp] theorem State.setValidFlag_validFlag (s : State) (v : Bool) : (s.setValidFlag v).validFlag = v := rfl
@[simp] theorem State.setValidFlag_eqFlag (s : State) (v : Bool) : (s.setValidFlag v).eqFlag = s.eqFlag := rfl
@[simp] theorem State.setValidFlag_fault (s : State) (v : Bool) : (s.setValidFlag v).fault = s.fault := rfl
@[simp] theorem State.setValidFlag_script (s : State) (v : Bool) : (s.setValidFlag v).script = s.script := rfl
@[simp] theorem State.setValidFlag_observed (s : State) (v : Bool) : (s.setValidFlag v).observed = s.observed := rfl

/-! ### setEqFlag -/

@[simp] theorem State.setEqFlag_src (s : State) (v : Bool) : (s.setEqFlag v).src = s.src := rfl
@[simp] theorem State.setEqFlag_dst (s : State) (v : Bool) : (s.setEqFlag v).dst = s.dst := rfl
@[simp] theorem State.setEqFlag_seq (s : State) (v : Bool) : (s.setEqFlag v).seq = s.seq := rfl
@[simp] theorem State.setEqFlag_ack (s : State) (v : Bool) : (s.setEqFlag v).ack = s.ack := rfl
@[simp] theorem State.setEqFlag_flg (s : State) (v : Bool) : (s.setEqFlag v).flg = s.flg := rfl
@[simp] theorem State.setEqFlag_win (s : State) (v : Bool) : (s.setEqFlag v).win = s.win := rfl
@[simp] theorem State.setEqFlag_len (s : State) (v : Bool) : (s.setEqFlag v).len = s.len := rfl
@[simp] theorem State.setEqFlag_buflen (s : State) (v : Bool) : (s.setEqFlag v).buflen = s.buflen := rfl
@[simp] theorem State.setEqFlag_plen (s : State) (v : Bool) : (s.setEqFlag v).plen = s.plen := rfl
@[simp] theorem State.setEqFlag_a (s : State) (v : Bool) : (s.setEqFlag v).a = s.a := rfl
@[simp] theorem State.setEqFlag_b (s : State) (v : Bool) : (s.setEqFlag v).b = s.b := rfl
@[simp] theorem State.setEqFlag_r (s : State) (v : Bool) : (s.setEqFlag v).r = s.r := rfl
@[simp] theorem State.setEqFlag_y (s : State) (v : Bool) : (s.setEqFlag v).y = s.y := rfl
@[simp] theorem State.setEqFlag_hdr (s : State) (v : Bool) : (s.setEqFlag v).hdr = s.hdr := rfl
@[simp] theorem State.setEqFlag_cmd (s : State) (v : Bool) : (s.setEqFlag v).cmd = s.cmd := rfl
@[simp] theorem State.setEqFlag_okFlag (s : State) (v : Bool) : (s.setEqFlag v).okFlag = s.okFlag := rfl
@[simp] theorem State.setEqFlag_validFlag (s : State) (v : Bool) : (s.setEqFlag v).validFlag = s.validFlag := rfl
@[simp] theorem State.setEqFlag_eqFlag (s : State) (v : Bool) : (s.setEqFlag v).eqFlag = v := rfl
@[simp] theorem State.setEqFlag_fault (s : State) (v : Bool) : (s.setEqFlag v).fault = s.fault := rfl
@[simp] theorem State.setEqFlag_script (s : State) (v : Bool) : (s.setEqFlag v).script = s.script := rfl
@[simp] theorem State.setEqFlag_observed (s : State) (v : Bool) : (s.setEqFlag v).observed = s.observed := rfl

/-! ### setFault -/

@[simp] theorem State.setFault_src (s : State) (v : BitVec 4) : (s.setFault v).src = s.src := rfl
@[simp] theorem State.setFault_dst (s : State) (v : BitVec 4) : (s.setFault v).dst = s.dst := rfl
@[simp] theorem State.setFault_seq (s : State) (v : BitVec 4) : (s.setFault v).seq = s.seq := rfl
@[simp] theorem State.setFault_ack (s : State) (v : BitVec 4) : (s.setFault v).ack = s.ack := rfl
@[simp] theorem State.setFault_flg (s : State) (v : BitVec 4) : (s.setFault v).flg = s.flg := rfl
@[simp] theorem State.setFault_win (s : State) (v : BitVec 4) : (s.setFault v).win = s.win := rfl
@[simp] theorem State.setFault_len (s : State) (v : BitVec 4) : (s.setFault v).len = s.len := rfl
@[simp] theorem State.setFault_buflen (s : State) (v : BitVec 4) : (s.setFault v).buflen = s.buflen := rfl
@[simp] theorem State.setFault_plen (s : State) (v : BitVec 4) : (s.setFault v).plen = s.plen := rfl
@[simp] theorem State.setFault_a (s : State) (v : BitVec 4) : (s.setFault v).a = s.a := rfl
@[simp] theorem State.setFault_b (s : State) (v : BitVec 4) : (s.setFault v).b = s.b := rfl
@[simp] theorem State.setFault_r (s : State) (v : BitVec 4) : (s.setFault v).r = s.r := rfl
@[simp] theorem State.setFault_y (s : State) (v : BitVec 4) : (s.setFault v).y = s.y := rfl
@[simp] theorem State.setFault_hdr (s : State) (v : BitVec 4) : (s.setFault v).hdr = s.hdr := rfl
@[simp] theorem State.setFault_cmd (s : State) (v : BitVec 4) : (s.setFault v).cmd = s.cmd := rfl
@[simp] theorem State.setFault_okFlag (s : State) (v : BitVec 4) : (s.setFault v).okFlag = s.okFlag := rfl
@[simp] theorem State.setFault_validFlag (s : State) (v : BitVec 4) : (s.setFault v).validFlag = s.validFlag := rfl
@[simp] theorem State.setFault_eqFlag (s : State) (v : BitVec 4) : (s.setFault v).eqFlag = s.eqFlag := rfl
@[simp] theorem State.setFault_fault (s : State) (v : BitVec 4) : (s.setFault v).fault = v := rfl
@[simp] theorem State.setFault_script (s : State) (v : BitVec 4) : (s.setFault v).script = s.script := rfl
@[simp] theorem State.setFault_observed (s : State) (v : BitVec 4) : (s.setFault v).observed = s.observed := rfl

/-! ### setScript -/

@[simp] theorem State.setScript_src (s : State) (v : List Transaction) : (s.setScript v).src = s.src := rfl
@[simp] theorem State.setScript_dst (s : State) (v : List Transaction) : (s.setScript v).dst = s.dst := rfl
@[simp] theorem State.setScript_seq (s : State) (v : List Transaction) : (s.setScript v).seq = s.seq := rfl
@[simp] theorem State.setScript_ack (s : State) (v : List Transaction) : (s.setScript v).ack = s.ack := rfl
@[simp] theorem State.setScript_flg (s : State) (v : List Transaction) : (s.setScript v).flg = s.flg := rfl
@[simp] theorem State.setScript_win (s : State) (v : List Transaction) : (s.setScript v).win = s.win := rfl
@[simp] theorem State.setScript_len (s : State) (v : List Transaction) : (s.setScript v).len = s.len := rfl
@[simp] theorem State.setScript_buflen (s : State) (v : List Transaction) : (s.setScript v).buflen = s.buflen := rfl
@[simp] theorem State.setScript_plen (s : State) (v : List Transaction) : (s.setScript v).plen = s.plen := rfl
@[simp] theorem State.setScript_a (s : State) (v : List Transaction) : (s.setScript v).a = s.a := rfl
@[simp] theorem State.setScript_b (s : State) (v : List Transaction) : (s.setScript v).b = s.b := rfl
@[simp] theorem State.setScript_r (s : State) (v : List Transaction) : (s.setScript v).r = s.r := rfl
@[simp] theorem State.setScript_y (s : State) (v : List Transaction) : (s.setScript v).y = s.y := rfl
@[simp] theorem State.setScript_hdr (s : State) (v : List Transaction) : (s.setScript v).hdr = s.hdr := rfl
@[simp] theorem State.setScript_cmd (s : State) (v : List Transaction) : (s.setScript v).cmd = s.cmd := rfl
@[simp] theorem State.setScript_okFlag (s : State) (v : List Transaction) : (s.setScript v).okFlag = s.okFlag := rfl
@[simp] theorem State.setScript_validFlag (s : State) (v : List Transaction) : (s.setScript v).validFlag = s.validFlag := rfl
@[simp] theorem State.setScript_eqFlag (s : State) (v : List Transaction) : (s.setScript v).eqFlag = s.eqFlag := rfl
@[simp] theorem State.setScript_fault (s : State) (v : List Transaction) : (s.setScript v).fault = s.fault := rfl
@[simp] theorem State.setScript_script (s : State) (v : List Transaction) : (s.setScript v).script = v := rfl
@[simp] theorem State.setScript_observed (s : State) (v : List Transaction) : (s.setScript v).observed = s.observed := rfl

/-! ### setObserved -/

@[simp] theorem State.setObserved_src (s : State) (v : List Word) : (s.setObserved v).src = s.src := rfl
@[simp] theorem State.setObserved_dst (s : State) (v : List Word) : (s.setObserved v).dst = s.dst := rfl
@[simp] theorem State.setObserved_seq (s : State) (v : List Word) : (s.setObserved v).seq = s.seq := rfl
@[simp] theorem State.setObserved_ack (s : State) (v : List Word) : (s.setObserved v).ack = s.ack := rfl
@[simp] theorem State.setObserved_flg (s : State) (v : List Word) : (s.setObserved v).flg = s.flg := rfl
@[simp] theorem State.setObserved_win (s : State) (v : List Word) : (s.setObserved v).win = s.win := rfl
@[simp] theorem State.setObserved_len (s : State) (v : List Word) : (s.setObserved v).len = s.len := rfl
@[simp] theorem State.setObserved_buflen (s : State) (v : List Word) : (s.setObserved v).buflen = s.buflen := rfl
@[simp] theorem State.setObserved_plen (s : State) (v : List Word) : (s.setObserved v).plen = s.plen := rfl
@[simp] theorem State.setObserved_a (s : State) (v : List Word) : (s.setObserved v).a = s.a := rfl
@[simp] theorem State.setObserved_b (s : State) (v : List Word) : (s.setObserved v).b = s.b := rfl
@[simp] theorem State.setObserved_r (s : State) (v : List Word) : (s.setObserved v).r = s.r := rfl
@[simp] theorem State.setObserved_y (s : State) (v : List Word) : (s.setObserved v).y = s.y := rfl
@[simp] theorem State.setObserved_hdr (s : State) (v : List Word) : (s.setObserved v).hdr = s.hdr := rfl
@[simp] theorem State.setObserved_cmd (s : State) (v : List Word) : (s.setObserved v).cmd = s.cmd := rfl
@[simp] theorem State.setObserved_okFlag (s : State) (v : List Word) : (s.setObserved v).okFlag = s.okFlag := rfl
@[simp] theorem State.setObserved_validFlag (s : State) (v : List Word) : (s.setObserved v).validFlag = s.validFlag := rfl
@[simp] theorem State.setObserved_eqFlag (s : State) (v : List Word) : (s.setObserved v).eqFlag = s.eqFlag := rfl
@[simp] theorem State.setObserved_fault (s : State) (v : List Word) : (s.setObserved v).fault = s.fault := rfl
@[simp] theorem State.setObserved_script (s : State) (v : List Word) : (s.setObserved v).script = s.script := rfl
@[simp] theorem State.setObserved_observed (s : State) (v : List Word) : (s.setObserved v).observed = v := rfl

end Sys2Proof.Machine
end

