-- ==== Sys2Proof/Laws/Ops.lean ====
section
/-! SUPPORT. What the primitives and the shared operations do, said once: byte reads after the header writes, the numbers the reads stand for, the fault primitive, the soft reset, the modulus test. -/

namespace Sys2Proof.Machine

/-! ### Header bytes -/

/-- A byte after `put8`. -/
theorem put8_getElem (h : Header) (o : Nat) (v : Byte) (ho : o < 20) (i : Nat) (hi : i < 20) :
    (put8 h o v ho)[i] = if o = i then v else h[i] := by
  simp [put8, Vector.getElem_set]

/-- A byte after `put16`: the two written bytes, high byte first, and every other byte unchanged. -/
theorem put16_getElem (h : Header) (o : Nat) (v : Half) (ho : o + 1 < 20) (i : Nat) (hi : i < 20) :
    (put16 h o v ho)[i] =
      if i = o then v.extractLsb' 8 8 else if i = o + 1 then v.extractLsb' 0 8 else h[i] := by
  simp only [put16, Vector.getElem_set]
  grind

/-- A byte after `put32`. -/
theorem put32_getElem (h : Header) (o : Nat) (v : Word) (ho : o + 3 < 20) (i : Nat) (hi : i < 20) :
    (put32 h o v ho)[i] =
      if i = o then v.extractLsb' 24 8 else if i = o + 1 then v.extractLsb' 16 8
      else if i = o + 2 then v.extractLsb' 8 8 else if i = o + 3 then v.extractLsb' 0 8
      else h[i] := by
  simp only [put32, Vector.getElem_set]
  grind

/-- Two bytes make a 16-bit number, high byte first (R9). -/
theorem append_toNat16 (x y : Byte) : (x ++ y : BitVec 16).toNat = x.toNat * 2 ^ 8 + y.toNat := by
  rw [BitVec.toNat_append, Nat.shiftLeft_eq, ← Nat.shiftLeft_eq,
    Nat.shiftLeft_add_eq_or_of_lt y.isLt]

/-- `be16` is the big-endian number of R9. -/
theorem be16_toNat (h : Header) (o : Nat) (ho : o + 1 < 20) :
    (be16 h o ho).toNat = h[o].toNat * 2 ^ 8 + h[o + 1].toNat :=
  append_toNat16 _ _

/-- The high byte of a `be16` value. -/
@[simp] theorem be16_high (h : Header) (o : Nat) (ho : o + 1 < 20) :
    (be16 h o ho).extractLsb' 8 8 = h[o] := by
  apply BitVec.eq_of_toNat_eq
  have := h[o].isLt; have := h[o + 1].isLt
  simp only [BitVec.extractLsb'_toNat, be16_toNat, Nat.shiftRight_eq_div_pow]; omega

/-- The low byte of a `be16` value. -/
@[simp] theorem be16_low (h : Header) (o : Nat) (ho : o + 1 < 20) :
    (be16 h o ho).extractLsb' 0 8 = h[o + 1] := by
  apply BitVec.eq_of_toNat_eq
  have := h[o].isLt; have := h[o + 1].isLt
  simp only [BitVec.extractLsb'_toNat, be16_toNat, Nat.shiftRight_eq_div_pow]; omega

/-- `be32` is the big-endian number of R9. -/
theorem be32_toNat (h : Header) (o : Nat) (ho : o + 3 < 20) :
    (be32 h o ho).toNat =
      h[o].toNat * 2 ^ 24 + h[o + 1].toNat * 2 ^ 16 + h[o + 2].toNat * 2 ^ 8 + h[o + 3].toNat := by
  have := h[o].isLt; have := h[o + 1].isLt; have := h[o + 2].isLt; have := h[o + 3].isLt
  simp only [be32]
  rw [BitVec.toNat_append, ← Nat.shiftLeft_add_eq_or_of_lt (BitVec.isLt _), BitVec.toNat_append,
    ← Nat.shiftLeft_add_eq_or_of_lt (BitVec.isLt _), append_toNat16]
  simp only [Nat.shiftLeft_eq]; omega

/-- A 16-bit value is its two bytes put together. -/
theorem halves16 (v : Half) : (v.extractLsb' 8 8 ++ v.extractLsb' 0 8 : BitVec 16) = v := by
  apply BitVec.eq_of_toNat_eq
  have := v.isLt
  rw [append_toNat16]
  simp only [BitVec.extractLsb'_toNat, Nat.shiftRight_eq_div_pow]; omega

/-- A 32-bit value is its four bytes put together. -/
theorem quarters32 (v : Word) :
    (v.extractLsb' 24 8 ++ v.extractLsb' 16 8 ++ v.extractLsb' 8 8 ++ v.extractLsb' 0 8 : BitVec 32)
      = v := by
  apply BitVec.eq_of_toNat_eq
  have := v.isLt
  rw [BitVec.toNat_append, ← Nat.shiftLeft_add_eq_or_of_lt (BitVec.isLt _), BitVec.toNat_append,
    ← Nat.shiftLeft_add_eq_or_of_lt (BitVec.isLt _), append_toNat16]
  simp only [BitVec.extractLsb'_toNat, Nat.shiftRight_eq_div_pow, Nat.shiftLeft_eq]; omega

/-- Reading back the 16-bit field just written. -/
@[simp] theorem be16_put16 (h : Header) (o : Nat) (v : Half) (ho : o + 1 < 20) (ho' : o + 1 < 20) :
    be16 (put16 h o v ho) o ho' = v := by
  simp [be16, put16_getElem, halves16]

/-- Reading back the 32-bit field just written. -/
@[simp] theorem be32_put32 (h : Header) (o : Nat) (v : Word) (ho : o + 3 < 20) (ho' : o + 3 < 20) :
    be32 (put32 h o v ho) o ho' = v := by
  simp [be32, put32_getElem, quarters32]

/-- A 16-bit field apart from the one written is unchanged. -/
theorem be16_put16_apart (h : Header) (o p : Nat) (v : Half) (ho : o + 1 < 20) (hp : p + 1 < 20)
    (hd : p + 1 < o ∨ o + 1 < p) : be16 (put16 h o v ho) p hp = be16 h p hp := by
  simp only [be16, put16_getElem]
  congr 1 <;> grind

/-- A 32-bit field apart from the 16-bit field written is unchanged. -/
theorem be32_put16_apart (h : Header) (o p : Nat) (v : Half) (ho : o + 1 < 20) (hp : p + 3 < 20)
    (hd : p + 3 < o ∨ o + 1 < p) : be32 (put16 h o v ho) p hp = be32 h p hp := by
  simp only [be32, put16_getElem]
  congr 1
  · congr 1
    · congr 1 <;> grind
    · grind
  · grind

/-! ### Numbers -/

/-- `not16` is the bitwise complement (R9, R132). -/
theorem not16_eq_not (v : Half) : not16 v = ~~~v := by
  apply BitVec.eq_of_toNat_eq
  have := v.isLt
  simp only [not16, BitVec.toNat_ofNat, BitVec.toNat_not]; omega

/-- `not16` as a number. -/
theorem not16_toNat (v : Half) : (not16 v).toNat = 0xFFFF - v.toNat := by
  have := v.isLt
  simp only [not16, BitVec.toNat_ofNat]; omega

/-- Complementing twice. -/
@[simp] theorem not16_not16 (v : Half) : not16 (not16 v) = v := by
  simp [not16_eq_not]

/-- `sext16` is the signed reading of a 16-bit pattern (R9). -/
theorem sext16_eq_toInt (t : Half) : sext16 t = t.toInt := by
  have := t.isLt
  simp only [sext16, BitVec.toInt_eq_toNat_cond]; split <;> split <;> omega

/-- The checksum sum in 16-bit wrapping arithmetic (R131: signed and unsigned readings agree). -/
theorem csumSum_eq_add (h : Header) (len : Word) :
    csumSum h len = len.setWidth 16 + srcOf h + dstOf h + winOf h + urgOf h := by
  apply BitVec.eq_of_toNat_eq
  simp only [csumSum, trunc16, BitVec.toNat_ofNat, BitVec.toNat_add, BitVec.toNat_setWidth]; omega

/-- The recovered length bits in 16-bit wrapping arithmetic (R140). -/
theorem recoveredBits_eq_sub (h : Header) :
    recoveredBits h = ~~~(csumOf h) - srcOf h - dstOf h - winOf h - urgOf h := by
  rw [← not16_eq_not]
  apply BitVec.eq_of_toNat_eq
  have h1 := (not16 (csumOf h)).isLt; have h2 := (srcOf h).isLt; have h3 := (dstOf h).isLt
  have h4 := (winOf h).isLt; have h5 := (urgOf h).isLt
  simp only [recoveredBits, BitVec.toNat_ofInt, BitVec.toNat_sub]; omega

/-- The recovered payload length lies in -32788 to 32747 (R140). -/
theorem recoveredPlen_range (h : Header) :
    -32788 ≤ recoveredPlen h ∧ recoveredPlen h ≤ 32747 := by
  have := (recoveredBits h).isLt
  simp only [recoveredPlen, sext16, Config.hdrSize]; split <;> omega

/-- What PLEN holds after RECOVER, read as two's complement, is the recovered payload length. -/
theorem recoveredPlen_toInt (h : Header) :
    (BitVec.ofInt 32 (recoveredPlen h)).toInt = recoveredPlen h := by
  have := recoveredPlen_range h
  rw [BitVec.toInt_ofInt, Int.bmod_eq_of_le] <;> omega

/-- When a recovered length is valid (R141). -/
theorem validOf_eq_true_iff (p : Int) (buflen : Word) :
    validOf p buflen = true ↔ 0 ≤ p ∧ p ≤ 556 ∧ p + 20 ≤ buflen.toNat := by
  exact decide_eq_true_iff

/-! ### Shared operations -/

/-- All the fault primitive can do (R203): record the code, or nothing where one is pending. -/
theorem raise_cases (s : State) (c : FaultCode) :
    (s.fault = 0 ∧ raise s c = s.setFault (faultBits c)) ∨ (s.fault ≠ 0 ∧ raise s c = s) := by
  by_cases h : s.fault = 0
  · exact .inl ⟨h, if_pos h⟩
  · exact .inr ⟨h, if_neg h⟩

/-- The codes are legal (R201). -/
theorem faultBits_le (c : FaultCode) : (faultBits c).toNat ≤ 3 := by
  cases c <;> decide

/-- The code after the fault primitive. -/
theorem raise_fault (s : State) (c : FaultCode) :
    (raise s c).fault = if s.fault = 0 then faultBits c else s.fault := by
  rcases raise_cases s c with ⟨h, e⟩ | ⟨h, e⟩
  · rw [e, if_pos h]; rfl
  · rw [e, if_neg h]

/-! The fault primitive changes no field but `fault` (R203). -/

@[simp] theorem raise_src (s : State) (c : FaultCode) : (raise s c).src = s.src := by
  rcases raise_cases s c with ⟨_, h⟩ | ⟨_, h⟩ <;> simp [h]

@[simp] theorem raise_dst (s : State) (c : FaultCode) : (raise s c).dst = s.dst := by
  rcases raise_cases s c with ⟨_, h⟩ | ⟨_, h⟩ <;> simp [h]

@[simp] theorem raise_seq (s : State) (c : FaultCode) : (raise s c).seq = s.seq := by
  rcases raise_cases s c with ⟨_, h⟩ | ⟨_, h⟩ <;> simp [h]

@[simp] theorem raise_ack (s : State) (c : FaultCode) : (raise s c).ack = s.ack := by
  rcases raise_cases s c with ⟨_, h⟩ | ⟨_, h⟩ <;> simp [h]

@[simp] theorem raise_flg (s : State) (c : FaultCode) : (raise s c).flg = s.flg := by
  rcases raise_cases s c with ⟨_, h⟩ | ⟨_, h⟩ <;> simp [h]

@[simp] theorem raise_win (s : State) (c : FaultCode) : (raise s c).win = s.win := by
  rcases raise_cases s c with ⟨_, h⟩ | ⟨_, h⟩ <;> simp [h]

@[simp] theorem raise_len (s : State) (c : FaultCode) : (raise s c).len = s.len := by
  rcases raise_cases s c with ⟨_, h⟩ | ⟨_, h⟩ <;> simp [h]

@[simp] theorem raise_buflen (s : State) (c : FaultCode) : (raise s c).buflen = s.buflen := by
  rcases raise_cases s c with ⟨_, h⟩ | ⟨_, h⟩ <;> simp [h]

@[simp] theorem raise_plen (s : State) (c : FaultCode) : (raise s c).plen = s.plen := by
  rcases raise_cases s c with ⟨_, h⟩ | ⟨_, h⟩ <;> simp [h]

@[simp] theorem raise_a (s : State) (c : FaultCode) : (raise s c).a = s.a := by
  rcases raise_cases s c with ⟨_, h⟩ | ⟨_, h⟩ <;> simp [h]

@[simp] theorem raise_b (s : State) (c : FaultCode) : (raise s c).b = s.b := by
  rcases raise_cases s c with ⟨_, h⟩ | ⟨_, h⟩ <;> simp [h]

@[simp] theorem raise_r (s : State) (c : FaultCode) : (raise s c).r = s.r := by
  rcases raise_cases s c with ⟨_, h⟩ | ⟨_, h⟩ <;> simp [h]

@[simp] theorem raise_y (s : State) (c : FaultCode) : (raise s c).y = s.y := by
  rcases raise_cases s c with ⟨_, h⟩ | ⟨_, h⟩ <;> simp [h]

@[simp] theorem raise_hdr (s : State) (c : FaultCode) : (raise s c).hdr = s.hdr := by
  rcases raise_cases s c with ⟨_, h⟩ | ⟨_, h⟩ <;> simp [h]

@[simp] theorem raise_cmd (s : State) (c : FaultCode) : (raise s c).cmd = s.cmd := by
  rcases raise_cases s c with ⟨_, h⟩ | ⟨_, h⟩ <;> simp [h]

@[simp] theorem raise_okFlag (s : State) (c : FaultCode) : (raise s c).okFlag = s.okFlag := by
  rcases raise_cases s c with ⟨_, h⟩ | ⟨_, h⟩ <;> simp [h]

@[simp] theorem raise_validFlag (s : State) (c : FaultCode) : (raise s c).validFlag = s.validFlag := by
  rcases raise_cases s c with ⟨_, h⟩ | ⟨_, h⟩ <;> simp [h]

@[simp] theorem raise_eqFlag (s : State) (c : FaultCode) : (raise s c).eqFlag = s.eqFlag := by
  rcases raise_cases s c with ⟨_, h⟩ | ⟨_, h⟩ <;> simp [h]

@[simp] theorem raise_script (s : State) (c : FaultCode) : (raise s c).script = s.script := by
  rcases raise_cases s c with ⟨_, h⟩ | ⟨_, h⟩ <;> simp [h]

@[simp] theorem raise_observed (s : State) (c : FaultCode) : (raise s c).observed = s.observed := by
  rcases raise_cases s c with ⟨_, h⟩ | ⟨_, h⟩ <;> simp [h]

/-- All the modulus test can do (R160). -/
theorem withModulus_cases (s : State) (f : Nat → State) :
    (s.r = 0 ∧ withModulus s f = raise s .rangeZero) ∨ (s.r ≠ 0 ∧ withModulus s f = f s.r.toNat) := by
  by_cases h : s.r = 0
  · exact .inl ⟨h, if_pos h⟩
  · exact .inr ⟨h, if_neg h⟩

/-- The soft reset is the reset state but for the host's own two fields (R231). -/
theorem softReset_eq (s : State) :
    softReset s = { State.reset with script := s.script, observed := s.observed } := rfl

end Sys2Proof.Machine
end

