-- ==== Sys2Proof/Laws/PerInstr.lean ====
section
/-! SUPPORT. The family Encoding, one lemma per constructor of Instr: the command is well-formed, its word passes the two tests for an illegal word (30_encoding.md R80), and OP stands in the word's low byte with zero above (R75). -/

namespace Sys2Proof.Laws.Encoding

/-- What the family says of an instruction. -/
def Statement (i : Instr) : Prop :=
  i.wf = true ∧ wordWf (encodeInstr i) = true ∧ (encodeInstr i).toNat = (opcodeOf i).toNat

theorem nop : Statement .nop := ⟨rfl, rfl, rfl⟩
theorem encode : Statement .encode := ⟨rfl, rfl, rfl⟩
theorem stamp : Statement .stamp := ⟨rfl, rfl, rfl⟩
theorem verify : Statement .verify := ⟨rfl, rfl, rfl⟩
theorem recover : Statement .recover := ⟨rfl, rfl, rfl⟩
theorem decode : Statement .decode := ⟨rfl, rfl, rfl⟩
theorem extSeq : Statement .extSeq := ⟨rfl, rfl, rfl⟩
theorem extAck : Statement .extAck := ⟨rfl, rfl, rfl⟩
theorem extFlg : Statement .extFlg := ⟨rfl, rfl, rfl⟩
theorem extWin : Statement .extWin := ⟨rfl, rfl, rfl⟩
theorem seqMod : Statement .seqMod := ⟨rfl, rfl, rfl⟩
theorem seqInc : Statement .seqInc := ⟨rfl, rfl, rfl⟩
theorem seqRange : Statement .seqRange := ⟨rfl, rfl, rfl⟩
theorem seqEq : Statement .seqEq := ⟨rfl, rfl, rfl⟩

end Sys2Proof.Laws.Encoding
end

