-- ==== Sys2Proof/Laws/Step.lean ====
section
/-! SUPPORT. Inversion, said once: what a command, the issue of a command, a bus access and a step can do. Later proofs cite these instead of unfolding the machine. -/

namespace Sys2Proof.Machine

/-- The state an outcome holds, and `s` where it holds none. -/
def nextState (s : State) : Host.Outcome State Fault Refusal → State
  | .next t => t
  | .fault _ => s
  | .refused _ => s

/-- The state a command leaves. -/
def effect (i : Instr) (s : State) : State := nextState s (exec i s)

/-- Every command answers its effect: none stops the model. -/
theorem exec_eq_effect (i : Instr) (s : State) : exec i s = .next (effect i s) := by
  cases i <;> rfl

/-- All that the issue of a command can do (R180): suppressed, illegal, or executed. -/
theorem issueCommand_cases (w : Word) (s : State) :
    (s.fault ≠ 0 ∧ issueCommand w s = .next s) ∨
    (s.fault = 0 ∧ (∃ e, decodeWord w = .error e) ∧
      issueCommand w s = .next (raise s .illegalCmd)) ∨
    (s.fault = 0 ∧ ∃ i, decodeWord w = .ok i ∧ issueCommand w s = .next (effect i s)) := by
  by_cases h : s.fault = 0
  · cases hd : decodeWord w with
    | error e => exact .inr (.inl ⟨h, ⟨e, rfl⟩, by simp only [issueCommand, ne_eq, h, hd]; rfl⟩)
    | ok i =>
      exact .inr (.inr ⟨h, i, rfl, by simp only [issueCommand, ne_eq, h, hd, ← exec_eq_effect]; rfl⟩)
  · exact .inl ⟨h, if_pos h⟩

/-- The state the issue of a command leaves. -/
def afterIssue (w : Word) (s : State) : State := nextState s (issueCommand w s)

/-- The issue of a command always answers a next state. -/
theorem issueCommand_eq (w : Word) (s : State) : issueCommand w s = .next (afterIssue w s) := by
  rcases issueCommand_cases w s with ⟨_, h⟩ | ⟨_, _, h⟩ | ⟨_, _, _, h⟩ <;>
    simp only [afterIssue, h, nextState]

/-- The state the issue of a command leaves, case by case (R180). -/
theorem afterIssue_cases (w : Word) (s : State) :
    (s.fault ≠ 0 ∧ afterIssue w s = s) ∨
    (s.fault = 0 ∧ (∃ e, decodeWord w = .error e) ∧ afterIssue w s = raise s .illegalCmd) ∨
    (s.fault = 0 ∧ ∃ i, decodeWord w = .ok i ∧ afterIssue w s = effect i s) := by
  rcases issueCommand_cases w s with ⟨h0, h⟩ | ⟨h0, he, h⟩ | ⟨h0, i, hd, h⟩
  · exact .inl ⟨h0, by simp only [afterIssue, h, nextState]⟩
  · exact .inr (.inl ⟨h0, he, by simp only [afterIssue, h, nextState]⟩)
  · exact .inr (.inr ⟨h0, i, hd, by simp only [afterIssue, h, nextState]⟩)

/-- The state a write to a mapped register leaves. -/
def afterWriteReg (reg : Reg) (d : Word) (s : State) : State := nextState s (writeReg reg d s)

/-- A write to a mapped register always answers a next state. -/
theorem writeReg_eq (reg : Reg) (d : Word) (s : State) :
    writeReg reg d s = .next (afterWriteReg reg d s) := by
  cases reg <;> first | rfl | (simp only [afterWriteReg, writeReg, issueCommand_eq, nextState])

/-- The write to CMD stores the word and then issues it (R52). -/
theorem afterWriteReg_cmd (d : Word) (s : State) :
    afterWriteReg .cmd d s = afterIssue d (s.setCmd d) := by
  simp only [afterWriteReg, writeReg, issueCommand_eq, nextState]

/-- All that a bus write can do (R52): a bad access, or the write of the register at the offset. -/
theorem busWrite_cases (off : Offset) (d : Word) (s : State) :
    busWrite off d s = .next (raise s .badAccess) ∨
    (∃ reg, isMisaligned off = false ∧ regAt off = some reg ∧
      busWrite off d s = .next (afterWriteReg reg d s)) := by
  by_cases hm : isMisaligned off = true
  · exact .inl (by simp [busWrite, hm])
  · cases hr : regAt off with
    | none => exact .inl (by simp [busWrite, hm, hr])
    | some reg => exact .inr ⟨reg, by simpa using hm, rfl, by simp [busWrite, hm, hr, writeReg_eq]⟩

/-- All that a bus read can do (R53): a bad access that returns 0, or a register's value and no
change. -/
theorem busRead_cases (off : Offset) (s : State) :
    busRead off s = (0, raise s .badAccess) ∨
    (∃ reg, isMisaligned off = false ∧ regAt off = some reg ∧ busRead off s = (readReg reg s, s)) := by
  by_cases hm : isMisaligned off = true
  · exact .inl (by simp [busRead, hm])
  · cases hr : regAt off with
    | none => exact .inl (by simp [busRead, hm, hr])
    | some reg => exact .inr ⟨reg, by simpa using hm, rfl, by simp [busRead, hm, hr]⟩

/-- The register map read both ways: an offset names the register whose offset it is (R54). -/
theorem regAt_eq_some_iff (off : Offset) (reg : Reg) : regAt off = some reg ↔ offsetOf reg = off := by
  constructor
  · revert reg; revert off; decide
  · rintro rfl
    cases reg with
    | hdr k => revert k; decide
    | _ => rfl

/-- Every mapped offset is word-aligned (R54). -/
theorem offsetOf_aligned (reg : Reg) : isMisaligned (offsetOf reg) = false := by
  cases reg with
  | hdr k => revert k; decide
  | _ => rfl

/-- A write at a register's own offset. -/
theorem busWrite_offsetOf (reg : Reg) (d : Word) (s : State) :
    busWrite (offsetOf reg) d s = .next (afterWriteReg reg d s) := by
  simp [busWrite, offsetOf_aligned, (regAt_eq_some_iff _ reg).2 rfl, writeReg_eq]

/-- A read at a register's own offset. -/
theorem busRead_offsetOf (reg : Reg) (s : State) :
    busRead (offsetOf reg) s = (readReg reg s, s) := by
  simp [busRead, offsetOf_aligned, (regAt_eq_some_iff _ reg).2 rfl]

/-- Writing back what the field registers hold changes nothing. -/
theorem setFields_fieldsOf (s : State) : setFields s (fieldsOf s) = s := by cases s; rfl

/-- Each field reader writes one of the six field registers and keeps the others. -/
theorem setSeq_eq_setFields (s : State) (v : Word) :
    s.setSeq v = setFields s { fieldsOf s with seq := v } := by cases s; rfl

theorem setAck_eq_setFields (s : State) (v : Word) :
    s.setAck v = setFields s { fieldsOf s with ack := v } := by cases s; rfl

theorem setFlg_eq_setFields (s : State) (v : Byte) :
    s.setFlg v = setFields s { fieldsOf s with fl := v } := by cases s; rfl

theorem setWin_eq_setFields (s : State) (v : Half) :
    s.setWin v = setFields s { fieldsOf s with ws := v } := by cases s; rfl

/-- One command changes at most the registers of the operand table's last column, and FAULT (30_encoding.md R78). -/
theorem effect_cases (i : Instr) (s : State) :
    (∃ h, effect i s = s.setHdr h ∧ (i = .encode ∨ i = .stamp)) ∨
    (∃ f, effect i s = setFields s f) ∨
    (∃ v, effect i s = s.setOkFlag v ∧ i = .verify) ∨
    (effect i s = (s.setPlen (BitVec.ofInt 32 (recoveredPlen s.hdr))).setValidFlag
      (validOf (recoveredPlen s.hdr) s.buflen) ∧ i = .recover) ∨
    (∃ v, effect i s = s.setY v) ∨ (∃ v, effect i s = s.setR v) ∨
    (∃ v, effect i s = s.setEqFlag v ∧ i = .seqEq) ∨ effect i s = raise s .rangeZero := by
  cases i with
  | nop => exact .inr (.inl ⟨_, (setFields_fieldsOf s).symm⟩)
  | encode => exact .inl ⟨_, rfl, .inl rfl⟩
  | stamp => exact .inl ⟨_, rfl, .inr rfl⟩
  | verify => exact .inr (.inr (.inl ⟨_, rfl, rfl⟩))
  | recover => exact .inr (.inr (.inr (.inl ⟨rfl, rfl⟩)))
  | decode => exact .inr (.inl ⟨_, rfl⟩)
  | extSeq => exact .inr (.inl ⟨_, setSeq_eq_setFields s _⟩)
  | extAck => exact .inr (.inl ⟨_, setAck_eq_setFields s _⟩)
  | extFlg => exact .inr (.inl ⟨_, setFlg_eq_setFields s _⟩)
  | extWin => exact .inr (.inl ⟨_, setWin_eq_setFields s _⟩)
  | seqRange => exact .inr (.inr (.inr (.inr (.inr (.inl ⟨_, rfl⟩)))))
  | seqMod =>
    rcases withModulus_cases s (fun n => s.setY (BitVec.ofNat 32 (s.a.toNat % n))) with ⟨_, h⟩ | ⟨_, h⟩
    · exact .inr (.inr (.inr (.inr (.inr (.inr (.inr h))))))
    · exact .inr (.inr (.inr (.inr (.inl ⟨_, h⟩))))
  | seqInc =>
    rcases withModulus_cases s (fun n => s.setY (BitVec.ofNat 32 ((s.a.toNat + 1) % n)))
      with ⟨_, h⟩ | ⟨_, h⟩
    · exact .inr (.inr (.inr (.inr (.inr (.inr (.inr h))))))
    · exact .inr (.inr (.inr (.inr (.inl ⟨_, h⟩))))
  | seqEq =>
    rcases withModulus_cases s (fun n => s.setEqFlag (eqOf s.a s.b n)) with ⟨_, h⟩ | ⟨_, h⟩
    · exact .inr (.inr (.inr (.inr (.inr (.inr (.inr h))))))
    · exact .inr (.inr (.inr (.inr (.inr (.inr (.inl ⟨_, h, rfl⟩))))))

/-- No command touches what the host has still to send, what it has read, CMD, or the length and
operand registers only the host writes (R24, R25, R27). -/
@[simp] theorem effect_host_fields (i : Instr) (s : State) :
    (effect i s).script = s.script ∧ (effect i s).observed = s.observed ∧
    (effect i s).cmd = s.cmd ∧ (effect i s).len = s.len ∧ (effect i s).buflen = s.buflen ∧
    (effect i s).a = s.a ∧ (effect i s).b = s.b := by
  rcases effect_cases i s with ⟨_, h, _⟩ | ⟨_, h⟩ | ⟨_, h, _⟩ | ⟨h, _⟩ | ⟨_, h⟩ | ⟨_, h⟩ | ⟨_, h, _⟩ | h <;>
    simp [h, setFields]

/-- The state a transaction leaves. -/
def afterTransact (t : Transaction) (s : State) : State := nextState s (transact t s)

/-- A transaction always answers a next state (R217: the SCU is always ready). -/
theorem transact_eq (t : Transaction) (s : State) : transact t s = .next (afterTransact t s) := by
  cases t with
  | read off => rfl
  | write off d =>
    rcases busWrite_cases off d s with h | ⟨_, _, _, h⟩ <;>
      simp only [afterTransact, transact, h, nextState]

/-- All that a transaction can leave: a bad access, a register write, or a read (R52, R53). -/
theorem afterTransact_cases (t : Transaction) (s : State) :
    (∃ off d, t = .write off d ∧ afterTransact t s = raise s .badAccess) ∨
    (∃ reg d, t = .write (offsetOf reg) d ∧ afterTransact t s = afterWriteReg reg d s) ∨
    (∃ off, t = .read off ∧ afterTransact t s = observe (0, raise s .badAccess)) ∨
    (∃ reg, t = .read (offsetOf reg) ∧ afterTransact t s = observe (readReg reg s, s)) := by
  cases t with
  | read off =>
    rcases busRead_cases off s with h | ⟨reg, _, hr, h⟩
    · exact .inr (.inr (.inl ⟨off, rfl, by simp only [afterTransact, transact, h, nextState]⟩))
    · rw [regAt_eq_some_iff] at hr
      exact .inr (.inr (.inr ⟨reg, by rw [hr], by simp only [afterTransact, transact, h, nextState]⟩))
  | write off d =>
    rcases busWrite_cases off d s with h | ⟨reg, _, hr, h⟩
    · exact .inl ⟨off, d, rfl, by simp only [afterTransact, transact, h, nextState]⟩
    · rw [regAt_eq_some_iff] at hr
      exact .inr (.inl ⟨reg, d, by rw [hr], by simp only [afterTransact, transact, h, nextState]⟩)

/-- All that a step can do: stop where the script is empty, or perform its first transaction, which
always answers a next state (R20, R60, R217). -/
theorem step_cases (s : State) :
    (s.script = [] ∧ step s = .fault .scriptEnded) ∨
    (∃ t rest, s.script = t :: rest ∧ step s = .next (afterTransact t (s.setScript rest))) := by
  unfold step takeStep
  cases h : s.script with
  | nil => exact .inl ⟨rfl, rfl⟩
  | cons t rest => exact .inr ⟨t, rest, rfl, transact_eq _ _⟩

/-- The step inverted: a next state is what the first transaction leaves. -/
theorem step_next {s u : State} (h : step s = .next u) :
    ∃ t rest, s.script = t :: rest ∧ u = afterTransact t (s.setScript rest) := by
  rcases step_cases s with ⟨_, h'⟩ | ⟨t, rest, hs, h'⟩
  · rw [h'] at h; cases h
  · rw [h'] at h; cases h; exact ⟨t, rest, hs, rfl⟩

end Sys2Proof.Machine
end

