-- ==== Sys2Proof/Tests/Slice0.lean ====
section
/-! SUPPORT. Tests: the ill-formed words the checks refuse, the encodings written out bit by bit, at most two vectors of 95_test_vectors.md per command, the bus and fault vectors, and a witness for the hypotheses of every statement that has any. Every expected value is the spec's. -/

namespace Sys2Proof.Tests

open Sys2Proof Sys2Proof.Machine

/-! ### Well-formedness: each check refuses an ill-formed word (R75, R80) -/

theorem test_wf_reserved_bit_refused : wordReservedClear 0x00000101 = false := by decide
theorem test_wf_unassigned_op_refused : wordOpAssigned 0x0000000A = false ∧
    wordOpAssigned 0x00000014 = false ∧ wordOpAssigned 0x000000FF = false := by decide
theorem test_wf_word_accepted : wordWf 0x00000013 = true ∧ wordWf 0x00000009 = true := by decide
theorem test_wf_every_command : Instr.wf .nop = true ∧ Instr.wf .seqEq = true := by decide

/-! ### Decoding: the command words bit by bit, RSV then OP (R75, R76) -/

theorem test_decode_nop : decodeWord 0b00000000000000000000000000000000#32 = .ok .nop := by decide
theorem test_decode_encode : decodeWord 0b00000000000000000000000000000001#32 = .ok .encode := by decide
theorem test_decode_stamp : decodeWord 0b00000000000000000000000000000010#32 = .ok .stamp := by decide
theorem test_decode_verify : decodeWord 0b00000000000000000000000000000011#32 = .ok .verify := by decide
theorem test_decode_recover : decodeWord 0b00000000000000000000000000000100#32 = .ok .recover := by decide
theorem test_decode_decode : decodeWord 0b00000000000000000000000000000101#32 = .ok .decode := by decide
theorem test_decode_extSeq : decodeWord 0b00000000000000000000000000000110#32 = .ok .extSeq := by decide
theorem test_decode_extAck : decodeWord 0b00000000000000000000000000000111#32 = .ok .extAck := by decide
theorem test_decode_extFlg : decodeWord 0b00000000000000000000000000001000#32 = .ok .extFlg := by decide
theorem test_decode_extWin : decodeWord 0b00000000000000000000000000001001#32 = .ok .extWin := by decide
theorem test_decode_seqMod : decodeWord 0b00000000000000000000000000010000#32 = .ok .seqMod := by decide
theorem test_decode_seqInc : decodeWord 0b00000000000000000000000000010001#32 = .ok .seqInc := by decide
theorem test_decode_seqRange : decodeWord 0b00000000000000000000000000010010#32 = .ok .seqRange := by decide
theorem test_decode_seqEq : decodeWord 0b00000000000000000000000000010011#32 = .ok .seqEq := by decide
theorem test_decode_table_word : decodeTableWord 32 0x12 = some .seqRange ∧
    decodeTableWord 8 0x12 = some .seqRange ∧ decodeTableWord 32 0x112 = none := by decide

/-! ### Helpers -/

/-- What a test says of a command's next state. -/
def after (i : Instr) (s : State) (p : State → Bool) : Bool :=
  match exec i s with
  | .next t => p t
  | .fault _ => false
  | .refused _ => false

/-- What a test says of the state after one transaction. -/
def afterOne (x : Transaction) (s : State) (p : State → Bool) : Bool :=
  match step { s with script := [x] } with
  | .next t => p t
  | .fault _ => false
  | .refused _ => false

/-- A header from its five words, HDR0 to HDR4, as 95_test_vectors.md writes them; byte 12 is 0x50,
since no vector depends on it. -/
def header (b : List Byte) : Header := Vector.ofFn fun i => b.getD i.val 0

/-- T-STP-1 stamped: `1F901F91 0 0 50100001 BE9D0000`. -/
def stamped : Header := header [0x1F, 0x90, 0x1F, 0x91, 0, 0, 0, 0, 0, 0, 0, 0, 0x50, 0x10, 0, 0x01, 0xBE, 0x9D, 0, 0]

/-- T-STP-1 not stamped. -/
def unstamped : Header := header [0x1F, 0x90, 0x1F, 0x91, 0, 0, 0, 0, 0, 0, 0, 0, 0x50, 0x10, 0, 0x01, 0, 0, 0, 0]

/-- T-ENC-2 stamped at LEN 0x10000 (T-STP-6). -/
def mixed : Header := header [0x12, 0x34, 0x56, 0x78, 0x9A, 0xBC, 0xDE, 0xF0, 0x0F, 0x0E, 0x0D, 0x0C, 0x50, 0x11, 0, 0x10, 0x97, 0x43, 0, 0]

/-- The reset state with a header, LEN and BUFLEN. -/
def loaded (h : Header) (len buflen : Word) : State :=
  { State.reset with hdr := h, len := len, buflen := buflen }

/-- The reset state with A, B and R. -/
def ranged (a b r : Word) : State := { State.reset with a := a, b := b, r := r }

/-- The reset state with a fault pending. -/
def faulted : State := { State.reset with fault := 1 }

/-! ### Commands -/

/-- R181. -/
theorem test_nop : after .nop (ranged 1 2 3) (fun t => decide (t = ranged 1 2 3)) = true := by decide

/-- T-ENC-2, MARKER's byte left out. -/
theorem test_encode_bytes :
    after .encode { State.reset with src := 0x1234, dst := 0x5678, seq := 0x9ABCDEF0, ack := 0x0F0E0D0C,
                                     flg := 0x11, win := 0x0010 }
      (fun t => decide ((t.hdr.set 12 0x50).toList = [0x12, 0x34, 0x56, 0x78, 0x9A, 0xBC, 0xDE, 0xF0, 0x0F,
        0x0E, 0x0D, 0x0C, 0x50, 0x11, 0x00, 0x10, 0x00, 0x00, 0x00, 0x00])) = true := by decide

/-- R100: byte 12 is MARKER, whatever its value. -/
theorem test_encode_marker :
    (match exec .encode State.reset with | .next t => t.hdr[12] | _ => 0) = Config.marker := rfl

/-- T-DEC-1. -/
theorem test_decode_fields :
    after .decode (loaded mixed 0 0) (fun t => decide (t.src = 0x1234 ∧ t.dst = 0x5678 ∧ t.seq = 0x9ABCDEF0 ∧
      t.ack = 0x0F0E0D0C ∧ t.flg = 0x11 ∧ t.win = 0x0010 ∧ t.fault = 0)) = true := by decide

/-- R104's example and T-DEC-1's bytes. -/
theorem test_extSeq : after .extSeq (loaded mixed 0 0) (fun t => decide (t.seq = 0x9ABCDEF0 ∧ t.ack = 0)) = true := by
  decide

/-- R105's example. -/
theorem test_extAck : after .extAck (loaded mixed 0 0) (fun t => decide (t.ack = 0x0F0E0D0C ∧ t.seq = 0)) = true := by
  decide

/-- T-EXT-3. -/
theorem test_extFlg : after .extFlg (loaded mixed 0 0) (fun t => decide (t.flg = 0x11 ∧ t.win = 0)) = true := by decide

/-- T-EXT-5: WIN = 0xFFFF. -/
theorem test_extWin : after .extWin (loaded ((unstamped.set 14 0xFF).set 15 0xFF) 0 0)
    (fun t => decide (t.win = 0xFFFF ∧ t.flg = 0)) = true := by decide

/-- T-STP-1. -/
theorem test_stamp_full : after .stamp (loaded unstamped 576 0) (fun t => decide (t.hdr = stamped)) = true := by decide

/-- T-STP-4: the 16-bit wrap, checksum 0x0003. -/
theorem test_stamp_wrap : after .stamp (loaded (Vector.ofFn fun i => if i.val < 16 then 0xFF else 0) 0xFFFF 0)
    (fun t => decide (t.hdr[16] = 0x00 ∧ t.hdr[17] = 0x03)) = true := by decide

/-- T-VER-1 and T-VER-12: 576 and its alias 0x10240. -/
theorem test_verify_ok : after .verify (loaded stamped 576 0) (·.okFlag) = true ∧
    after .verify (loaded stamped 0x10240 0) (·.okFlag) = true := by decide

/-- T-VER-2, T-VER-5 and T-VER-11: a flipped port bit, a set urgent pointer, a wrong length. -/
theorem test_verify_fails : after .verify (loaded (stamped.set 1 0x91) 576 0) (!·.okFlag) = true ∧
    after .verify (loaded (stamped.set 19 0x01) 576 0) (!·.okFlag) = true ∧
    after .verify (loaded stamped 575 0) (!·.okFlag) = true := by decide

/-- T-REC-1 and T-REC-4: exact, and longer than the buffer. -/
theorem test_recover_exact :
    after .recover (loaded stamped 0 576) (fun t => decide (t.plen = 0x22C ∧ t.validFlag = true)) = true ∧
    after .recover (loaded stamped 0 575) (fun t => decide (t.plen = 0x22C ∧ t.validFlag = false)) = true := by decide

/-- T-REC-8 and T-REC-13: sext16 of 0x8000, and a corrupt port. -/
theorem test_recover_negative :
    after .recover (loaded (header [0, 0, 0, 0, 0, 0, 0, 0, 0, 0, 0, 0, 0, 0, 0, 0, 0x7F, 0xFF]) 0 576)
      (fun t => decide (t.plen = 0xFFFF7FEC ∧ t.validFlag = false)) = true ∧
    after .recover (loaded (stamped.set 2 0x9F) 0 576)
      (fun t => decide (t.plen = 0xFFFF822C ∧ t.validFlag = false)) = true := by decide

/-- T-SEQ-4 and T-SEQ-6. -/
theorem test_seqMod : after .seqMod (ranged 0xFFFFFFFF 0 7) (fun t => decide (t.y = 3 ∧ t.fault = 0)) = true ∧
    after .seqMod { ranged 5 0 0 with y := 9 } (fun t => decide (t.y = 9 ∧ t.fault = 2)) = true := by decide

/-- T-SEQ-11 and T-SEQ-13: exact, not wrapped; zero range. -/
theorem test_seqInc : after .seqInc (ranged 0xFFFFFFFF 0 3) (fun t => decide (t.y = 1)) = true ∧
    after .seqInc (ranged 0 0 0) (fun t => decide (t.y = 0 ∧ t.fault = 2)) = true := by decide

/-- T-SEQ-16 and T-SEQ-17. -/
theorem test_seqRange :
    after .seqRange { State.reset with win := 0xFFFF } (fun t => decide (t.r = 0x1FFFE)) = true ∧
    after .seqRange { State.reset with r := 5 } (fun t => decide (t.r = 0 ∧ t.fault = 0)) = true := by decide

/-- T-SEQ-19 and T-SEQ-20: B is reduced, A is not. -/
theorem test_seqEq : after .seqEq (ranged 1 5 4) (·.eqFlag) = true ∧
    after .seqEq (ranged 5 1 4) (!·.eqFlag) = true := by decide

/-! ### Bus, faults and reset -/

/-- T-CTL-2 and T-CTL-5: an illegal word; a command suppressed. -/
theorem test_issue_illegal :
    afterOne (.write 0x04 0x14) State.reset (fun t => decide (t = { State.reset with cmd := 0x14, fault := 1 })) = true ∧
    afterOne (.write 0x04 0x01) faulted (fun t => decide (t = { faulted with cmd := 0x01 })) = true := by decide

/-- T-CTL-7 and T-CTL-8. -/
theorem test_soft_reset :
    afterOne (.write 0x00 1) { ranged 7 0 0 with cmd := 0x10, fault := 2 } (fun t => decide (t = State.reset)) = true ∧
    afterOne (.write 0x00 0xFFFFFFFE) (ranged 7 0 0) (fun t => decide (t = ranged 7 0 0)) = true := by decide

/-- T-BUS-1, T-BUS-2 and T-BUS-4. -/
theorem test_bad_access :
    afterOne (.read 0x02) State.reset (fun t => decide (t.observed = [0] ∧ t.fault = 3)) = true ∧
    afterOne (.write 0x0C 5) State.reset (fun t => decide (t = { State.reset with fault := 3 })) = true ∧
    afterOne (.write 0x44 7) State.reset (fun t => decide (t = { State.reset with fault := 3 })) = true := by decide

/-- T-BUS-6: the bytes behind HDR3, and its read back. -/
theorem test_header_window :
    afterOne (.write 0x5C 0x50100001) State.reset
      (fun t => decide (t.hdr[12] = 0x50 ∧ t.hdr[13] = 0x10 ∧ t.hdr[14] = 0x00 ∧ t.hdr[15] = 0x01)) = true ∧
    afterOne (.read 0x5C) (loaded stamped 0 0) (fun t => decide (t.observed = [0x50100001])) = true := by decide

/-- T-ENC-5: narrow writes. -/
theorem test_narrow_writes :
    afterOne (.write 0x10 0x12345) State.reset (fun t => decide (t.src = 0x2345)) = true ∧
    afterOne (.write 0x20 0x1FF) State.reset (fun t => decide (t.flg = 0xFF)) = true := by decide

/-- P4 line 16: STATUS = 0x103 with FAULT 1, VALID and OK. -/
theorem test_status_word :
    afterOne (.read 0x08) { faulted with validFlag := true, okFlag := true }
      (fun t => decide (t.observed = [0x103])) = true := by decide

/-- R72 and L1-1: the two observed flag codes. -/
theorem test_flag_codes : flagsHasAck Config.flagAck = true ∧ flagsHasFin Config.flagAck = false ∧
    flagsHasAck Config.flagAckFin = true ∧ flagsHasFin Config.flagAckFin = true := by decide

/-- P1 lines 11 and 12, R82: what two script lines stand for. -/
theorem test_assemble : assemble [.wr (.named .len) 30, .command .encode, .srst] =
    [.write 0x28 0x1E, .write 0x04 0x01, .write 0x00 0x01] := by decide

/-- The word the host places is the one the next step issues (log entry 1). -/
theorem test_fetch_word : step (State.reset.withFetchWord 32 0x12) =
    exec .seqRange { State.reset with cmd := 0x12 } := rfl

/-! ### Witnesses: states and operands that meet the hypotheses of each statement, at clause boundaries -/

theorem witness_DecodeOfEncode : Instr.wf .recover = true := by decide

theorem witness_IllegalWordsRaise :
    256 ≤ (0x00000100 : Word).toNat ∧ (0x0A ≤ (0x0A : Word).toNat % 256 ∧ (0x0A : Word).toNat % 256 ≤ 0x0F) ∧
    (0x0A ≤ (0x0F : Word).toNat % 256 ∧ (0x0F : Word).toNat % 256 ≤ 0x0F) ∧ 0x14 ≤ (0x14 : Word).toNat % 256 ∧
    0x14 ≤ (0xFF : Word).toNat % 256 := by decide
theorem witness_IllegalWordsRaise_legal :
    ¬ (256 ≤ (0x13 : Word).toNat ∨ (0x0A ≤ (0x13 : Word).toNat % 256 ∧ (0x13 : Word).toNat % 256 ≤ 0x0F) ∨
      0x14 ≤ (0x13 : Word).toNat % 256) ∧
    ¬ (256 ≤ (0x09 : Word).toNat ∨ (0x0A ≤ (0x09 : Word).toNat % 256 ∧ (0x09 : Word).toNat % 256 ≤ 0x0F) ∨
      0x14 ≤ (0x09 : Word).toNat % 256) := by simp

theorem witness_StepRunsDecodedInstruction :
    State.reset.fault = 0 ∧ decodeWord 0x05 = .ok .decode ∧ Instr.wf .decode = true := by decide

theorem witness_CommandIssue : faulted.fault ≠ 0 ∧
    (State.reset.fault = 0 ∧ decodeWord 0x14 = .error .unassignedOp) ∧
    (State.reset.fault = 0 ∧ decodeWord 0x100 = .error .reservedBits) ∧
    (State.reset.fault = 0 ∧ decodeWord 0x13 = .ok .seqEq) := by decide

theorem witness_PendingFaultSuppressesOnlyCommands :
    faulted.fault ≠ 0 ∧ (0x00 : Offset) ≠ 0x04 ∧ (0x04 : Offset) ≠ 0x08 ∧ (0xFF : Offset) ≠ 0x08 := by decide

theorem witness_BusReadValues_mapped :
    ((0x00 : Offset), (0x00000000 : Word)) ∈ readValues (loaded stamped 0 0) ∧
    ((0x60 : Offset), (0xBE9D0000 : Word)) ∈ readValues (loaded stamped 0 0) := by decide
theorem witness_BusReadValues_bad :
    (0x61 : Offset).toNat % 4 ≠ 0 ∧ (0x64 : Offset).toNat ∉ mappedOffsets ∧ (0x0C : Offset).toNat ∉ mappedOffsets := by
  decide

theorem witness_MisalignedAccess : (0x01 : Offset).toNat % 4 ≠ 0 ∧ (0xFF : Offset).toNat % 4 ≠ 0 := by decide

theorem witness_ReservedOffsetAccess :
    ∀ off ∈ ([0x0C, 0x34, 0x48, 0x4C, 0x64, 0xFC] : List Offset),
      off = 0x0C ∨ off = 0x34 ∨ off = 0x48 ∨ off = 0x4C ∨ (0x64 ≤ off.toNat ∧ off.toNat % 4 = 0) := by decide

theorem witness_ReadOnlyWrite :
    ∀ off ∈ ([0x08, 0x30, 0x44] : List Offset), off = 0x08 ∨ off = 0x30 ∨ off = 0x44 := by decide

theorem witness_AccessesAreIdempotent :
    (0x00 : Offset) ≠ 0x04 ∧ (0x60 : Offset).toNat ∈ mappedOffsets ∧ (0x00 : Offset).toNat ∈ mappedOffsets := by decide

theorem witness_SoftReset : (0x00000001 : Word).getLsbD 0 = true ∧ (0xFFFFFFFF : Word).getLsbD 0 = true ∧
    (0xFFFFFFFE : Word).getLsbD 0 = false := by decide

/-- ResetValues and SoftResetKeepsHostSide have the one hypothesis that bit 0 of the data is set. -/
theorem witness_ResetValues : (0x00000001 : Word).getLsbD 0 = true := by decide
theorem witness_SoftResetKeepsHostSide : (0xFFFFFFFF : Word).getLsbD 0 = true := by decide

theorem witness_FaultsAreRecordedAndPrecise_command :
    ∃ t, step { State.reset with script := [.write 0x04 0x14] } = .next t ∧ State.reset.fault = 0 ∧ t.fault ≠ 0 :=
  ⟨_, rfl, by decide, by decide⟩
theorem witness_FaultsAreRecordedAndPrecise_write :
    ∃ t, step { State.reset with script := [.write 0x08 0] } = .next t ∧ State.reset.fault = 0 ∧ t.fault ≠ 0 :=
  ⟨_, rfl, by decide, by decide⟩
theorem witness_FaultsAreRecordedAndPrecise_read :
    ∃ t, step { State.reset with script := [.read 0xFC] } = .next t ∧ State.reset.fault = 0 ∧ t.fault ≠ 0 :=
  ⟨_, rfl, by decide, by decide⟩

theorem witness_FaultIsStickyUntilReset :
    (∃ t, step { State.reset with script := [.read 0x02] } = .next t ∧ State.reset.fault = 0) ∧
    (∃ t, step { faulted with script := [.write 0x00 1] } = .next t ∧ faulted.fault ≠ 0) ∧
    (∃ t, step { faulted with script := [.read 0x02] } = .next t ∧ faulted.fault ≠ 0) :=
  ⟨⟨_, rfl, by decide⟩, ⟨_, rfl, by decide⟩, ⟨_, rfl, by decide⟩⟩

theorem witness_StepKeepsInvariant :
    ∃ t, State.Inv { loaded stamped 0 576 with script := [.write 0x04 0x04] } ∧
      step { loaded stamped 0 576 with script := [.write 0x04 0x04] } = .next t :=
  ⟨_, by decide, rfl⟩

/-- Two different states that agree on STAMP's operands, and two that agree on SEQ_EQ's. -/
theorem witness_CommandsReadOnlyTheirOperands :
    operandsAgree .stamp (loaded stamped 576 1) { loaded unstamped 576 2 with src := 7 } ∧
    operandsAgree .seqEq (ranged 1 5 4) { ranged 1 5 4 with y := 1 } ∧ ranged 1 5 4 ≠ { ranged 1 5 4 with y := 1 } :=
  ⟨⟨by decide, by decide, by decide, rfl⟩, ⟨rfl, rfl, rfl⟩, by decide⟩

/-- A step that resets nothing and executes a NOP, so none of the commands that write a result. -/
theorem witness_ResultsStayUntilTheirCommandExecutes :
    ∃ t, step { State.reset with script := [.write 0x04 0x00] } = .next t ∧
      ¬ resets { State.reset with script := [.write 0x04 0x00] } ∧
      ∀ is ∈ ([[.seqMod, .seqInc], [.recover], [.verify], [.seqEq]] : List (List Instr)),
        ¬ executes { State.reset with script := [.write 0x04 0x00] } is := by
  refine ⟨_, rfl, ?_, ?_⟩
  · rintro ⟨x, rest, h, hr⟩
    cases h
    exact absurd hr (by decide)
  · rintro is his ⟨_, w, rest, i, h, hd, hi⟩
    cases h
    cases hd
    revert is
    decide
/-- A step that records a fault and resets nothing. -/
theorem witness_ResultsStayUntilTheirCommandExecutes_fault :
    ∃ t, step { State.reset with script := [.write 0x04 0x10] } = .next t ∧
      ¬ resets { State.reset with script := [.write 0x04 0x10] } ∧ State.reset.fault = 0 ∧ t.fault ≠ 0 := by
  refine ⟨_, rfl, ?_, by decide, by decide⟩
  rintro ⟨x, rest, h, hr⟩
  cases h
  exact absurd hr (by decide)

/-- SeqModResult, SeqIncResult and SeqEqResult: both clauses. -/
theorem witness_SeqModResult : (ranged 9 0 1).r ≠ 0 ∧ (ranged 9 0 0).r = 0 := by decide
theorem witness_SeqIncResult : (ranged 0xFFFFFFFF 0 0xFFFFFFFF).r ≠ 0 ∧ (ranged 0 0 0).r = 0 := by decide
theorem witness_SeqEqResult : (ranged 2 6 4).r ≠ 0 ∧ (ranged 2 6 0).r = 0 := by decide

theorem witness_ZeroRangeFaults : State.reset.fault = 0 ∧ State.reset.r = 0 ∧
    ∀ w ∈ ([0x10, 0x11, 0x13] : List Word), w = 0x10 ∨ w = 0x11 ∨ w = 0x13 :=
  ⟨rfl, rfl, by simp⟩

/-- T-VER-1's header meets the hypothesis; bits and bytes at the ends of the summed fields; a length
that differs modulo 2^16; a header that differs in byte 4 only. -/
theorem witness_VerifyDetection : num16 stamped 16 = csumNum stamped 576 ∧
    (∀ i ∈ ([0, 3, 14, 19] : List Nat), i < 4 ∨ 14 ≤ i) ∧ (575 : Word).toNat % 2 ^ 16 ≠ (576 : Word).toNat % 2 ^ 16 ∧
    sameBytes 0 4 (stamped.set 4 1) stamped ∧ sameBytes 14 20 (stamped.set 4 1) stamped := by decide

/-- After a STAMP, a state that differs from the stamped one in SRC and in a byte of the sequence number. -/
theorem witness_StampThenVerify : ∃ t, exec .stamp (loaded unstamped 576 0) = .next t ∧
    State.len { t with src := 7, hdr := t.hdr.set 5 1 } = t.len ∧
    sameBytes 0 4 (t.hdr.set 5 1) t.hdr ∧ sameBytes 14 20 (t.hdr.set 5 1) t.hdr :=
  ⟨_, rfl, rfl, by decide, by decide⟩

theorem witness_LengthAliasing : (loaded stamped 576 0).len.toNat + 1 * 2 ^ 16 < 2 ^ 32 ∧
    (576 : Word).toNat ≤ Config.mss ∧ (20 : Word).toNat ≤ Config.mss := by decide
theorem witness_LengthAliasing_equal : csum stamped 576 = csum stamped 576 := rfl

theorem witness_ExactRecovery : (0 ≤ 556 ∧ (loaded unstamped 20 20).len.toNat = 20 + 0) ∧
    (556 ≤ 556 ∧ (loaded unstamped 576 576).len.toNat = 20 + 556) := by decide

theorem witness_SequenceAssignment : (ranged 0 0 4).r = 4 := by decide

theorem witness_IncrementAgreesWithAssignment : (ranged 0 0 4).r ≠ 0 ∧ 0 < 2 ^ 32 - 1 ∧ 2 ^ 32 - 2 < 2 ^ 32 - 1 :=
  And.intro (by decide) (And.intro (by omega) (by omega))

end Sys2Proof.Tests
end

section
/-! PROOFS. The family State (10_state.md): one register written or read by a step, the invariant and the
fault code through every step, what no transaction touches, the registers each command writes and reads,
and the header windows. -/

namespace Sys2Proof.Machine

/-! ### A step with a transaction pending -/

/-- The step that takes the head of the script. -/
theorem step_of_script {s : State} {x : Transaction} {rest : List Transaction}
    (h : s.script = x :: rest) : step s = .next (afterTransact x (s.setScript rest)) := by
  simp only [step, takeStep, h, transact_eq]

/-- A write at a register's own offset is the write of that register. -/
theorem afterTransact_write_offsetOf (reg : Reg) (d : Word) (s : State) :
    afterTransact (.write (offsetOf reg) d) s = afterWriteReg reg d s := by
  simp only [afterTransact, transact, busWrite_offsetOf, nextState]

/-- A read at a register's own offset observes that register's value. -/
theorem afterTransact_read_offsetOf (reg : Reg) (s : State) :
    afterTransact (.read (offsetOf reg)) s = observe (readReg reg s, s) := by
  simp only [afterTransact, transact, busRead_offsetOf, nextState]

/-- No register's value depends on what the host has still to send. -/
theorem readReg_setScript (reg : Reg) (s : State) (rest : List Transaction) :
    readReg reg (s.setScript rest) = readReg reg s := by
  cases reg <;> rfl

/-- The step that writes a register (R52). -/
theorem step_write_reg (reg : Reg) (d : Word) (s : State) (rest : List Transaction) :
    step { s with script := .write (offsetOf reg) d :: rest } =
      .next (afterWriteReg reg d { s with script := rest }) := by
  rw [step_of_script rfl, afterTransact_write_offsetOf]
  rfl

/-- The step that reads a register appends its value and changes nothing else (R53). -/
theorem step_read_reg (reg : Reg) {s : State} {rest : List Transaction}
    (h : s.script = .read (offsetOf reg) :: rest) :
    step s = .next { s with script := rest, observed := s.observed ++ [readReg reg s] } := by
  rw [step_of_script h, afterTransact_read_offsetOf, readReg_setScript]
  rfl

/-! ### The soft reset -/

/-- The write to CTRL: the soft reset, or nothing (R231, R232). -/
theorem afterWriteReg_ctrl (d : Word) (s : State) :
    afterWriteReg .ctrl d s = if d.getLsbD 0 then softReset s else s := rfl

/-- Power-on reset gives every element its value of R40. -/
theorem isReset_reset : IsReset State.reset :=
  ⟨rfl, rfl, rfl, rfl, rfl, rfl, rfl, rfl, rfl, rfl, rfl, rfl, rfl,
    fun _ hi => Vector.getElem_replicate hi, rfl, rfl, rfl, rfl, rfl⟩

/-- So does the soft reset, which differs from it in the host's own two fields only. -/
theorem isReset_softReset (s : State) : IsReset (softReset s) := isReset_reset

/-! ### The invariant through every step -/

/-- What leaves PLEN and VALID as they are and the fault code legal keeps the invariant. -/
theorem State.Inv.of_results_kept {s t : State} (h : s.Inv) (hf : t.faultLegal)
    (hp : t.plen = s.plen) (hv : t.validFlag = s.validFlag) : t.Inv := by
  obtain ⟨_, hrange, hvalid⟩ := h
  refine ⟨hf, ?_, ?_⟩
  · rwa [State.plenInRange, hp]
  · rwa [State.validMeansPayload, hv, hp]

/-- The reset state meets the invariant (R40). -/
theorem inv_reset : State.reset.Inv := by decide

/-- The soft reset establishes the invariant. -/
theorem inv_softReset (s : State) : (softReset s).Inv := inv_reset

/-- The fault primitive keeps the invariant: the codes it records are legal (R201). -/
theorem inv_raise {s : State} (h : s.Inv) (c : FaultCode) : (raise s c).Inv := by
  have hlegal : (raise s c).faultLegal := by
    rw [State.faultLegal, raise_fault]
    split
    · exact faultBits_le c
    · exact h.1
  exact h.of_results_kept hlegal (raise_plen s c) (raise_validFlag s c)

/-- RECOVER keeps the invariant: what it writes to PLEN is in range, and it sets VALID only for a legal
payload length (R140, R141). -/
theorem inv_effect_recover {s : State} (h : s.Inv) : (effect .recover s).Inv := by
  obtain ⟨hfault, -, -⟩ := h
  have hplen : (effect .recover s).plen.toInt = recoveredPlen s.hdr := recoveredPlen_toInt s.hdr
  refine ⟨hfault, ?_, fun hvalid => ?_⟩
  · rw [State.plenInRange, hplen]
    exact recoveredPlen_range s.hdr
  · obtain ⟨hlow, hhigh, -⟩ := (validOf_eq_true_iff _ _).1 hvalid
    rw [hplen]
    exact ⟨hlow, hhigh⟩

/-- Every command keeps the invariant: RECOVER by what it computes, a modular helper with R = 0 as the
fault primitive does, and every other one since it writes neither PLEN, VALID nor FAULT. -/
theorem inv_effect (i : Instr) {s : State} (h : s.Inv) : (effect i s).Inv := by
  rcases effect_cases i s with
    ⟨_, e, -⟩ | ⟨_, e⟩ | ⟨_, e, -⟩ | ⟨-, rfl⟩ | ⟨_, e⟩ | ⟨_, e⟩ | ⟨_, e, -⟩ | e
  -- RECOVER, then the modulus test that raises RANGE_ZERO, then the setters
  case inr.inr.inr.inl => exact inv_effect_recover h
  case inr.inr.inr.inr.inr.inr.inr => rw [e]; exact inv_raise h _
  all_goals rw [e]; exact h

/-- The issue of a command keeps the invariant. -/
theorem inv_afterIssue (w : Word) {s : State} (h : s.Inv) : (afterIssue w s).Inv := by
  rcases afterIssue_cases w s with ⟨-, e⟩ | ⟨-, -, e⟩ | ⟨-, i, -, e⟩ <;> rw [e]
  · exact h
  · exact inv_raise h _
  · exact inv_effect i h

/-- A write to a register keeps the invariant. -/
theorem inv_afterWriteReg (reg : Reg) (d : Word) {s : State} (h : s.Inv) :
    (afterWriteReg reg d s).Inv := by
  cases reg with
  | ctrl =>
    rw [afterWriteReg_ctrl]
    split
    · exact inv_softReset s
    · exact h
  | cmd => rw [afterWriteReg_cmd]; exact inv_afterIssue d (s := s.setCmd d) h
  | status | plen | y => exact inv_raise h .badAccess
  | _ => exact h

/-- Every transaction keeps the invariant. -/
theorem inv_afterTransact (x : Transaction) {s : State} (h : s.Inv) : (afterTransact x s).Inv := by
  rcases afterTransact_cases x s with
    ⟨_, _, -, e⟩ | ⟨reg, d, -, e⟩ | ⟨_, -, e⟩ | ⟨_, -, e⟩ <;> rw [e]
  · exact inv_raise h _
  · exact inv_afterWriteReg reg d h
  · exact inv_raise h .badAccess
  · exact h

/-- Settles O24: every step performs one transaction, and every transaction keeps the invariant. -/
theorem stepKeepsInvariant : Obligations.StepKeepsInvariant := by
  intro s t h hstep
  obtain ⟨x, rest, -, rfl⟩ := step_next hstep
  exact inv_afterTransact x (s := s.setScript rest) h

/-! ### The fault code through every step -/

/-- The fault code of `t` is that of `s`, or a legal cause recorded where none was pending (R203). -/
def faultKeptOrRecorded (s t : State) : Prop :=
  t.fault = s.fault ∨ s.fault = 0 ∧ ∃ c, t.fault = faultBits c

/-- The fault primitive is the rule itself. -/
theorem faultKeptOrRecorded_raise (s : State) (c : FaultCode) : faultKeptOrRecorded s (raise s c) := by
  rcases raise_cases s c with ⟨h, e⟩ | ⟨-, e⟩ <;> rw [e]
  · exact .inr ⟨h, c, rfl⟩
  · exact .inl rfl

/-- Every command follows it: only the modulus test raises. -/
theorem faultKeptOrRecorded_effect (i : Instr) (s : State) : faultKeptOrRecorded s (effect i s) := by
  rcases effect_cases i s with
    ⟨_, e, -⟩ | ⟨_, e⟩ | ⟨_, e, -⟩ | ⟨e, -⟩ | ⟨_, e⟩ | ⟨_, e⟩ | ⟨_, e, -⟩ | e <;> rw [e]
  -- the modulus test that raises RANGE_ZERO, then the setters
  case inr.inr.inr.inr.inr.inr.inr => exact faultKeptOrRecorded_raise s _
  all_goals exact .inl rfl

/-- So does the issue of a command, where an illegal word raises. -/
theorem faultKeptOrRecorded_afterIssue (w : Word) (s : State) :
    faultKeptOrRecorded s (afterIssue w s) := by
  rcases afterIssue_cases w s with ⟨-, e⟩ | ⟨-, -, e⟩ | ⟨-, i, -, e⟩ <;> rw [e]
  · exact .inl rfl
  · exact faultKeptOrRecorded_raise s _
  · exact faultKeptOrRecorded_effect i s

/-- A register write leaves the fault code to the rule of R203, or is the soft reset, which clears it. -/
theorem afterWriteReg_fault_cases (reg : Reg) (d : Word) (s : State) :
    faultKeptOrRecorded s (afterWriteReg reg d s) ∨
    (reg = .ctrl ∧ d.getLsbD 0 = true ∧ (afterWriteReg reg d s).fault = 0) := by
  cases reg with
  | ctrl =>
    rw [afterWriteReg_ctrl]
    split
    · exact .inr ⟨rfl, ‹_›, rfl⟩
    · exact .inl (.inl rfl)
  | cmd => rw [afterWriteReg_cmd]; exact .inl (faultKeptOrRecorded_afterIssue d (s.setCmd d))
  | status | plen | y => exact .inl (faultKeptOrRecorded_raise s .badAccess)
  | _ => exact .inl (.inl rfl)

/-- So does every transaction. -/
theorem afterTransact_fault_cases (x : Transaction) (s : State) :
    faultKeptOrRecorded s (afterTransact x s) ∨
    (isResetWrite x = true ∧ (afterTransact x s).fault = 0) := by
  rcases afterTransact_cases x s with
    ⟨_, _, -, e⟩ | ⟨reg, d, rfl, e⟩ | ⟨_, -, e⟩ | ⟨_, -, e⟩ <;> rw [e]
  · exact .inl (faultKeptOrRecorded_raise s _)
  · rcases afterWriteReg_fault_cases reg d s with h | ⟨rfl, hbit, h⟩
    · exact .inl h
    · exact .inr ⟨by simpa [isResetWrite, offsetOf] using hbit, h⟩
  · exact .inl (faultKeptOrRecorded_raise s .badAccess)
  · exact .inl (.inl rfl)

/-- The three codes of R201. -/
theorem faultBits_cases (c : FaultCode) : faultBits c = 1 ∨ faultBits c = 2 ∨ faultBits c = 3 := by
  cases c <;> decide

/-- Settles O23: the one transaction of a step keeps the code, records a legal one, or resets. -/
theorem faultIsStickyUntilReset : Obligations.FaultIsStickyUntilReset := by
  refine ⟨rfl, fun s t hstep => ?_⟩
  obtain ⟨x, rest, hscript, rfl⟩ := step_next hstep
  rcases afterTransact_fault_cases x (s.setScript rest) with (h | ⟨h0, c, h⟩) | ⟨hreset, h⟩ <;> rw [h]
  · exact ⟨.inl, fun _ => .inl rfl⟩
  · exact ⟨fun _ => .inr (faultBits_cases c), fun hne => absurd h0 hne⟩
  · exact ⟨fun _ => .inl rfl, fun _ => .inr ⟨rfl, x, rest, hscript, hreset⟩⟩

/-! ### What a transaction leaves of the host's side and of CMD -/

/-- The issue of a command leaves the script, the observation and CMD as they are. -/
theorem afterIssue_host_fields (w : Word) (s : State) :
    (afterIssue w s).script = s.script ∧ (afterIssue w s).observed = s.observed ∧
    (afterIssue w s).cmd = s.cmd := by
  rcases afterIssue_cases w s with ⟨-, e⟩ | ⟨-, -, e⟩ | ⟨-, _, -, e⟩ <;> simp [e]

/-- A register write, the soft reset among them, leaves the script and the observation as they are. -/
theorem afterWriteReg_host_fields (reg : Reg) (d : Word) (s : State) :
    (afterWriteReg reg d s).script = s.script ∧ (afterWriteReg reg d s).observed = s.observed := by
  cases reg with
  | ctrl => rw [afterWriteReg_ctrl]; split <;> exact ⟨rfl, rfl⟩
  | cmd =>
    obtain ⟨hscript, hobserved, -⟩ := afterIssue_host_fields d (s.setCmd d)
    rw [afterWriteReg_cmd]
    exact ⟨hscript, hobserved⟩
  | status | plen | y => exact ⟨raise_script s .badAccess, raise_observed s .badAccess⟩
  | _ => exact ⟨rfl, rfl⟩

/-- A write leaves the script and the observation as they are. -/
theorem afterTransact_write_host_fields (off : Offset) (d : Word) (s : State) :
    (afterTransact (.write off d) s).script = s.script ∧
    (afterTransact (.write off d) s).observed = s.observed := by
  rcases afterTransact_cases (.write off d) s with
    ⟨_, _, -, e⟩ | ⟨reg, d', -, e⟩ | ⟨_, ⟨⟩, -⟩ | ⟨_, ⟨⟩, -⟩ <;> rw [e]
  · exact ⟨raise_script s _, raise_observed s _⟩
  · exact afterWriteReg_host_fields reg d' s

/-- A read leaves the script as it is and appends one value to the observation. -/
theorem afterTransact_read_host_fields (off : Offset) (s : State) :
    (afterTransact (.read off) s).script = s.script ∧
    ∃ v, (afterTransact (.read off) s).observed = s.observed ++ [v] := by
  rcases afterTransact_cases (.read off) s with
    ⟨_, _, ⟨⟩, -⟩ | ⟨_, _, ⟨⟩, -⟩ | ⟨_, -, e⟩ | ⟨_, -, e⟩ <;> simp [e, observe]

/-- Settles O8: the step is the first transaction on the state whose script has lost it. -/
theorem stepPerformsOneTransaction : Obligations.StepPerformsOneTransaction := by
  intro s x rest
  refine ⟨_, step_of_script rfl, ?_⟩
  cases x with
  | write off d => exact afterTransact_write_host_fields off d _
  | read off => exact afterTransact_read_host_fields off _

/-- Settles O10: the write stores the word before it issues it, and no command writes CMD. -/
theorem cmdHoldsLastWordWritten : Obligations.CmdHoldsLastWordWritten := by
  refine ⟨rfl, fun s w rest => ⟨_, step_write_reg .cmd w s _, ?_⟩⟩
  rw [afterWriteReg_cmd]
  obtain ⟨hscript, -, hcmd⟩ :=
    afterIssue_host_fields w (State.setCmd { s with script := .read 0x04 :: rest } w)
  exact ⟨hcmd, by rw [step_read_reg .cmd hscript, readReg, hcmd]; rfl⟩

/-- With no fault pending a command's word executes (R180). -/
theorem afterIssue_of_ok {w : Word} {s : State} {i : Instr} (hfault : s.fault = 0)
    (hdecode : decodeWord w = .ok i) : afterIssue w s = effect i s := by
  rcases afterIssue_cases w s with ⟨h, -⟩ | ⟨-, ⟨_, he⟩, -⟩ | ⟨-, j, hj, e⟩
  · exact absurd hfault h
  · cases he.symm.trans hdecode
  · cases hj.symm.trans hdecode
    exact e

/-- Settles O5: the write to CMD stores the word and issues it. -/
theorem stepRunsDecodedInstruction : Obligations.StepRunsDecodedInstruction := by
  intro s w i rest hfault hdecode _
  rw [exec_eq_effect]
  refine (step_write_reg .cmd w s rest).trans ?_
  rw [afterWriteReg_cmd]
  exact congrArg _ (afterIssue_of_ok hfault hdecode)

/-! ### The field and operand registers on the bus -/

/-- The low bits of a word, as a number. -/
theorem ofNat_mod_eq_extractLsb' (n : Nat) (d : Word) :
    BitVec.ofNat n (d.toNat % 2 ^ n) = d.extractLsb' 0 n := by
  apply BitVec.eq_of_toNat_eq
  simp

/-- Settles O11: the register writes keep the low bits, the reads extend with zeros (R23). -/
theorem narrowRegistersKeepLowBits : Obligations.NarrowRegistersKeepLowBits := by
  intro s d rest
  simp only [ofNat_mod_eq_extractLsb', BitVec.ofNat_toNat]
  exact ⟨step_write_reg .src d s rest, step_write_reg .dst d s rest, step_write_reg .win d s rest,
    step_write_reg .flg d s rest, step_read_reg .src rfl, step_read_reg .dst rfl,
    step_read_reg .win rfl, step_read_reg .flg rfl⟩

/-- Settles O12: seven register writes (R52). -/
theorem wideRegistersStoreTheWord : Obligations.WideRegistersStoreTheWord := fun s d rest =>
  ⟨step_write_reg .seq d s rest, step_write_reg .ack d s rest, step_write_reg .len d s rest,
    step_write_reg .buflen d s rest, step_write_reg .a d s rest, step_write_reg .b d s rest,
    step_write_reg .r d s rest⟩

/-- Settles O19: the write of 1 to CTRL bit 0 is the soft reset. -/
theorem resetValues : Obligations.ResetValues := by
  refine ⟨isReset_reset, fun s d rest hbit => ⟨_, step_write_reg .ctrl d s rest, ?_⟩⟩
  rw [afterWriteReg_ctrl, if_pos hbit]
  exact isReset_softReset _

/-- Settles O25: the state after reset has FAULT, PLEN and VALID zero. -/
theorem resetMeetsInvariant : Obligations.ResetMeetsInvariant := inv_reset

/-! ### The registers each command writes: one equation per command -/

@[simp] theorem effect_nop (s : State) : effect .nop s = s := rfl

@[simp] theorem effect_encode (s : State) :
    effect .encode s = s.setHdr (pack Config.marker (fieldsOf s)) := rfl

@[simp] theorem effect_stamp (s : State) :
    effect .stamp s = s.setHdr (put16 s.hdr 16 (csum s.hdr s.len)) := rfl

@[simp] theorem effect_verify (s : State) : effect .verify s = s.setOkFlag (okOf s.hdr s.len) := rfl

@[simp] theorem effect_recover (s : State) :
    effect .recover s = (s.setPlen (BitVec.ofInt 32 (recoveredPlen s.hdr))).setValidFlag
      (validOf (recoveredPlen s.hdr) s.buflen) := rfl

@[simp] theorem effect_decode (s : State) : effect .decode s = setFields s (unpack s.hdr) := rfl

@[simp] theorem effect_extSeq (s : State) : effect .extSeq s = s.setSeq (seqOf s.hdr) := rfl

@[simp] theorem effect_extAck (s : State) : effect .extAck s = s.setAck (ackOf s.hdr) := rfl

@[simp] theorem effect_extFlg (s : State) : effect .extFlg s = s.setFlg (flagsOf s.hdr) := rfl

@[simp] theorem effect_extWin (s : State) : effect .extWin s = s.setWin (winOf s.hdr) := rfl

@[simp] theorem effect_seqRange (s : State) :
    effect .seqRange s = s.setR (BitVec.ofNat 32 (2 * s.win.toNat)) := rfl

theorem effect_seqMod (s : State) : effect .seqMod s =
    if s.r = 0 then raise s .rangeZero else s.setY (BitVec.ofNat 32 (s.a.toNat % s.r.toNat)) := rfl

theorem effect_seqInc (s : State) : effect .seqInc s =
    if s.r = 0 then raise s .rangeZero
    else s.setY (BitVec.ofNat 32 ((s.a.toNat + 1) % s.r.toNat)) := rfl

theorem effect_seqEq (s : State) : effect .seqEq s =
    if s.r = 0 then raise s .rangeZero else s.setEqFlag (eqOf s.a s.b s.r.toNat) := rfl

/-- Settles O26: the equation of each command names the registers of R78's last column; the three
modular helpers write their result or record RANGE_ZERO. -/
theorem commandsWriteOnlyTheirRegisters : Obligations.CommandsWriteOnlyTheirRegisters := by
  intro i s
  refine ⟨effect i s, exec_eq_effect i s, ?_⟩
  cases i with
  | seqMod => rw [effect_seqMod]; split <;> simp
  | seqInc => rw [effect_seqInc]; split <;> simp
  | seqEq => rw [effect_seqEq]; split <;> simp
  | _ => simp [setFields]

/-- A command other than ENCODE and STAMP leaves HDR as it is. -/
theorem effect_hdr (i : Instr) (s : State) (hencode : i ≠ .encode) (hstamp : i ≠ .stamp) :
    (effect i s).hdr = s.hdr := by
  obtain ⟨t, ht, hhdr, -⟩ := commandsWriteOnlyTheirRegisters i s
  cases (exec_eq_effect i s).symm.trans ht
  exact hhdr hencode hstamp

/-! ### The registers each command reads -/

/-- Equal bytes in a range are equal in every part of it. -/
theorem sameBytes.mono {a b c d : Nat} {g h : Header} (hgh : sameBytes a b g h)
    (hlow : a ≤ c) (hhigh : d ≤ b) : sameBytes c d g h :=
  fun i hi hc hd => hgh i hi (hlow.trans hc) (hd.trans_le hhigh)

/-- A 16-bit field inside a range of equal bytes. -/
theorem sameBytes.be16_eq {a b : Nat} {g h : Header} (hgh : sameBytes a b g h) (o : Nat)
    (ho : o + 1 < 20) (hlow : a ≤ o) (hhigh : o + 1 < b) : be16 g o ho = be16 h o ho := by
  rw [be16, hgh o (by omega) hlow (by omega), hgh (o + 1) ho (by omega) hhigh, be16]

/-- A 32-bit field inside a range of equal bytes. -/
theorem sameBytes.be32_eq {a b : Nat} {g h : Header} (hgh : sameBytes a b g h) (o : Nat)
    (ho : o + 3 < 20) (hlow : a ≤ o) (hhigh : o + 3 < b) : be32 g o ho = be32 h o ho := by
  rw [be32, hgh o (by omega) hlow (by omega), hgh (o + 1) (by omega) (by omega) (by omega),
    hgh (o + 2) (by omega) (by omega) (by omega), hgh (o + 3) ho (by omega) hhigh, be32]

/-- The checksum reads bytes 0 to 3, 14, 15, 18 and 19 (R131). -/
theorem csum_eq_of_sameBytes {g h : Header} (h0 : sameBytes 0 4 g h) (h14 : sameBytes 14 16 g h)
    (h18 : sameBytes 18 20 g h) (len : Word) : csum g len = csum h len := by
  have hsrc : srcOf g = srcOf h := h0.be16_eq 0 _ (by omega) (by omega)
  have hdst : dstOf g = dstOf h := h0.be16_eq 2 _ (by omega) (by omega)
  have hwin : winOf g = winOf h := h14.be16_eq 14 _ (by omega) (by omega)
  have hurg : urgOf g = urgOf h := h18.be16_eq 18 _ (by omega) (by omega)
  rw [csum, csumSum, hsrc, hdst, hwin, hurg, csum, csumSum]

/-- VERIFY's comparison reads bytes 0 to 3 and 14 to 19 (R134). -/
theorem okOf_eq_of_sameBytes {g h : Header} (h0 : sameBytes 0 4 g h) (h14 : sameBytes 14 20 g h)
    (len : Word) : okOf g len = okOf h len := by
  have hcsumField : csumOf g = csumOf h := h14.be16_eq 16 _ (by omega) (by omega)
  have hcsum : csum g len = csum h len :=
    csum_eq_of_sameBytes h0 (h14.mono (by omega) (by omega)) (h14.mono (by omega) (by omega)) len
  rw [okOf, hcsumField, hcsum, okOf]

/-- The recovered length reads bytes 0 to 3 and 14 to 19 (R140). -/
theorem recoveredPlen_eq_of_sameBytes {g h : Header} (h0 : sameBytes 0 4 g h)
    (h14 : sameBytes 14 20 g h) : recoveredPlen g = recoveredPlen h := by
  have hsrc : srcOf g = srcOf h := h0.be16_eq 0 _ (by omega) (by omega)
  have hdst : dstOf g = dstOf h := h0.be16_eq 2 _ (by omega) (by omega)
  have hwin : winOf g = winOf h := h14.be16_eq 14 _ (by omega) (by omega)
  have hcsum : csumOf g = csumOf h := h14.be16_eq 16 _ (by omega) (by omega)
  have hurg : urgOf g = urgOf h := h14.be16_eq 18 _ (by omega) (by omega)
  rw [recoveredPlen, recoveredBits, hsrc, hdst, hwin, hcsum, hurg, recoveredPlen, recoveredBits]

/-- The fields unpacked are those of bytes 0 to 15 (R101). -/
theorem unpack_eq_of_sameBytes {g h : Header} (hgh : sameBytes 0 16 g h) : unpack g = unpack h := by
  have hsrc : srcOf g = srcOf h := hgh.be16_eq 0 _ (by omega) (by omega)
  have hdst : dstOf g = dstOf h := hgh.be16_eq 2 _ (by omega) (by omega)
  have hseq : seqOf g = seqOf h := hgh.be32_eq 4 _ (by omega) (by omega)
  have hack : ackOf g = ackOf h := hgh.be32_eq 8 _ (by omega) (by omega)
  have hflg : flagsOf g = flagsOf h := hgh 13 _ (by omega) (by omega)
  have hwin : winOf g = winOf h := hgh.be16_eq 14 _ (by omega) (by omega)
  rw [unpack, hsrc, hdst, hseq, hack, hflg, hwin, unpack]

/-- The bytes of a field just written, in two headers that need not agree elsewhere. -/
theorem sameBytes_put16 (g h : Header) (o : Nat) (ho : o + 1 < 20) (v : Half) :
    sameBytes o (o + 2) (put16 g o v ho) (put16 h o v ho) := by
  intro i hi hlow hhigh
  rw [put16_getElem, put16_getElem]
  split
  · rfl
  · rw [if_pos (by omega), if_pos (by omega)]

/-- The bytes apart from a field just written are the old ones. -/
theorem sameBytes_put16_apart (h : Header) (o : Nat) (ho : o + 1 < 20) (v : Half) {a b : Nat}
    (hd : b ≤ o ∨ o + 2 ≤ a) : sameBytes a b (put16 h o v ho) h := by
  intro i hi hlow hhigh
  rw [put16_getElem, if_neg (by omega), if_neg (by omega)]

/-- A command other than SEQ_RANGE leaves R as it is; R says whether a modular helper has a result. -/
theorem effect_r (i : Instr) (s : State) (hrange : i ≠ .seqRange) : (effect i s).r = s.r := by
  obtain ⟨t, ht, -, -, -, -, -, -, -, -, -, -, hr, -⟩ := commandsWriteOnlyTheirRegisters i s
  cases (exec_eq_effect i s).symm.trans ht
  exact hr hrange

/-- Two states that agree on a command's operands agree, after it, on its results. -/
theorem resultsAgree_effect (i : Instr) (s t : State) (h : operandsAgree i s t) :
    resultsAgree i (effect i s) (effect i t) := by
  cases i with
  | nop => trivial
  | encode =>
    obtain ⟨hsrc, hdst, hseq, hack, hflg, hwin⟩ := h
    simp [resultsAgree, fieldsOf, hsrc, hdst, hseq, hack, hflg, hwin]
  | stamp =>
    obtain ⟨h0, h14, h18, hlen⟩ := h
    rw [effect_stamp, effect_stamp, csum_eq_of_sameBytes h0 h14 h18, hlen]
    exact sameBytes_put16 s.hdr t.hdr 16 (by omega) _
  | verify =>
    obtain ⟨h0, h14, hlen⟩ := h
    simp [resultsAgree, okOf_eq_of_sameBytes h0 h14, hlen]
  | recover =>
    obtain ⟨h0, h14, hbuflen⟩ := h
    simp [resultsAgree, recoveredPlen_eq_of_sameBytes h0 h14, hbuflen]
  | decode => simp [resultsAgree, setFields, unpack_eq_of_sameBytes h]
  | extSeq => exact h.be32_eq 4 _ (by omega) (by omega)
  | extAck => exact h.be32_eq 8 _ (by omega) (by omega)
  | extFlg => exact h 13 _ (by omega) (by omega)
  | extWin => exact h.be16_eq 14 _ (by omega) (by omega)
  | seqRange => simp [resultsAgree, show s.win = t.win from h]
  | seqMod | seqInc | seqEq =>
    intro hne
    rw [effect_r _ _ (by decide)] at hne
    simp_all [operandsAgree, effect_seqMod, effect_seqInc, effect_seqEq]

/-- Settles O27: every command answers its effect, whose results its operands alone decide. -/
theorem commandsReadOnlyTheirOperands : Obligations.CommandsReadOnlyTheirOperands :=
  fun i s t h => ⟨_, _, exec_eq_effect i s, exec_eq_effect i t, resultsAgree_effect i s t h⟩

/-! ### The five windows on HDR -/

/-- A byte of a word, as a number. -/
theorem extractLsb'_byte (d : Word) (j : Nat) :
    d.extractLsb' j 8 = BitVec.ofNat 8 (d.toNat / 2 ^ j) := by
  rw [← Nat.shiftRight_eq_div_pow]
  rfl

/-- The write of window `k` (R30). -/
theorem afterWriteReg_hdr (k : Fin 5) (d : Word) (s : State) :
    afterWriteReg (.hdr k) d s = s.setHdr (put32 s.hdr (4 * k.val) d) := rfl

/-- The bytes after a write of window `k`: the word's in bytes `4k` to `4k + 3`, highest first, and the
old ones elsewhere. -/
theorem put32_window_getElem (h : Header) (k : Fin 5) (d : Word) (i : Nat) (hi : i < 20) :
    (put32 h (4 * k.val) d)[i] =
      if i / 4 = k.val then BitVec.ofNat 8 (d.toNat / 2 ^ (24 - 8 * (i % 4))) else h[i] := by
  rw [put32_getElem]
  by_cases hin : i / 4 = k.val
  · rw [if_pos hin, ← extractLsb'_byte]
    obtain rfl | rfl | rfl | rfl : i = 4 * k.val ∨ i = 4 * k.val + 1 ∨ i = 4 * k.val + 2 ∨
        i = 4 * k.val + 3 := by omega
    all_goals simp [Nat.add_mod]
  · rw [if_neg hin, if_neg (by omega), if_neg (by omega), if_neg (by omega), if_neg (by omega)]

/-- Byte `r` of a window's word, highest first, is the header's byte `o + r`. -/
theorem be32_extractLsb' (h : Header) (o : Nat) (ho : o + 3 < 20) (r : Nat) (hr : r < 4) :
    (be32 h o ho).extractLsb' (24 - 8 * r) 8 = h[o + r] := by
  have h0 := h[o].isLt; have h1 := h[o + 1].isLt; have h2 := h[o + 2].isLt; have h3 := h[o + 3].isLt
  apply BitVec.eq_of_toNat_eq
  rw [BitVec.extractLsb'_toNat, be32_toNat, Nat.shiftRight_eq_div_pow]
  interval_cases r
  · change _ = h[o].toNat
    omega
  all_goals omega

/-- Writing a window's own word back changes no byte. -/
theorem put32_be32 (h : Header) (o : Nat) (ho : o + 3 < 20) : put32 h o (be32 h o ho) ho = h := by
  ext1 i hi
  rw [put32_getElem]
  split_ifs with hi0 hi1 hi2 hi3
  · subst hi0; exact be32_extractLsb' h i ho 0 (by omega)
  · subst hi1; exact be32_extractLsb' h o ho 1 (by omega)
  · subst hi2; exact be32_extractLsb' h o ho 2 (by omega)
  · subst hi3; exact be32_extractLsb' h o ho 3 (by omega)
  · rfl

/-- A window's word, written as the number its four bytes stand for. -/
theorem ofNat_num32 (h : Header) (o : Nat) (ho : o + 3 < 20) :
    BitVec.ofNat 32 (num32 h o ho) = be32 h o ho := by
  rw [num32, ← be32_toNat, BitVec.ofNat_toNat, BitVec.setWidth_eq]

/-- Settles O13: the window's write and read as one register's, and HDR after each command. -/
theorem headerWindows : Obligations.HeaderWindows := by
  refine ⟨fun s d k rest => ?_, fun s k rest => ⟨?_, ?_⟩, fun i s => ?_, fun i hi => ?_⟩
  · exact ⟨_, step_write_reg (.hdr k) d s rest, rfl, put32_window_getElem s.hdr k d⟩
  · rw [ofNat_num32]
    exact step_read_reg (.hdr k) rfl
  · rw [ofNat_num32]
    refine (step_write_reg (.hdr k) _ s rest).trans ?_
    rw [afterWriteReg_hdr, put32_be32]
    rfl
  · refine ⟨effect i s, exec_eq_effect i s, effect_hdr i s, ?_, ?_⟩
    · rintro rfl
      exact ⟨sameBytes_put16_apart s.hdr 16 (by omega) _ (.inl le_rfl),
        sameBytes_put16_apart s.hdr 16 (by omega) _ (.inr le_rfl)⟩
    · rintro rfl g
      exact ⟨_, exec_eq_effect .encode _, rfl⟩
  · exact Vector.getElem_replicate hi

end Sys2Proof.Machine
end

section
/-! PROOFS. The family Memory (20_memory.md): the register map as the list of its registers, a transaction
at an unmapped offset or at a read-only register, the value a read of each offset returns, accesses done
twice, and the header windows after ENCODE. -/

namespace Sys2Proof.Machine

/-! ### The register map as a list -/

/-- The registers in the order of R54's table. -/
def mappedRegs : List Reg :=
  [.ctrl, .cmd, .status, .src, .dst, .seq, .ack, .flg, .win, .len, .buflen, .plen, .a, .b, .r, .y,
    .hdr 0, .hdr 1, .hdr 2, .hdr 3, .hdr 4]

/-- The list leaves no register out. -/
theorem mem_mappedRegs (reg : Reg) : reg ∈ mappedRegs := by
  cases reg with
  | hdr k => revert k; decide
  | _ => decide

/-- The mapped offsets are the offsets of the registers. -/
theorem mappedOffsets_eq_map : mappedOffsets = mappedRegs.map fun reg => (offsetOf reg).toNat := rfl

/-- An offset is mapped when it is some register's (R54). -/
theorem mem_mappedOffsets_iff (off : Offset) :
    off.toNat ∈ mappedOffsets ↔ ∃ reg, offsetOf reg = off := by
  simp only [mappedOffsets_eq_map, List.mem_map, mem_mappedRegs, true_and, BitVec.toNat_inj]

/-- An offset names no register when it is not mapped (R56). -/
theorem regAt_eq_none_iff (off : Offset) : regAt off = none ↔ off.toNat ∉ mappedOffsets := by
  simp only [Option.eq_none_iff_forall_ne_some, ne_eq, regAt_eq_some_iff, mem_mappedOffsets_iff,
    not_exists]

/-- The mapped offsets are multiples of 4, the last of them 0x60. -/
theorem mappedOffsets_aligned_le : ∀ n ∈ mappedOffsets, n % 4 = 0 ∧ n ≤ 0x60 := by decide

/-- A misaligned offset is not mapped (R55). -/
theorem regAt_of_misaligned {off : Offset} (h : off.toNat % 4 ≠ 0) : regAt off = none :=
  (regAt_eq_none_iff off).2 fun hmem => h (mappedOffsets_aligned_le _ hmem).1

/-- An offset past HDR4 is not mapped (R56). -/
theorem regAt_of_past_hdr4 {off : Offset} (h : 0x64 ≤ off.toNat) : regAt off = none :=
  (regAt_eq_none_iff off).2 fun hmem => by
    have := (mappedOffsets_aligned_le _ hmem).2
    omega

/-! ### Bad accesses -/

/-- The fault primitive records the code R203 leaves. -/
theorem raise_eq_setFault (s : State) (c : FaultCode) :
    raise s c = s.setFault (keptFault s (faultBits c)) := by
  rcases raise_cases s c with ⟨h, e⟩ | ⟨h, e⟩
  · rw [e, keptFault, if_pos h]
  · rw [e, keptFault, if_neg h]
    rfl

/-- A write where no register is (R55, R56). -/
theorem afterTransact_write_unmapped {off : Offset} (h : regAt off = none) (d : Word) (s : State) :
    afterTransact (.write off d) s = raise s .badAccess := by
  rcases busWrite_cases off d s with e | ⟨_, -, hreg, -⟩
  · simp only [afterTransact, transact, e, nextState]
  · cases h.symm.trans hreg

/-- A read where no register is returns 0 (R55, R56). -/
theorem afterTransact_read_unmapped {off : Offset} (h : regAt off = none) (s : State) :
    afterTransact (.read off) s = observe (0, raise s .badAccess) := by
  rcases busRead_cases off s with e | ⟨_, -, hreg, -⟩
  · simp only [afterTransact, transact, e, nextState]
  · cases h.symm.trans hreg

/-- The step that writes where no register is. -/
theorem step_write_unmapped {off : Offset} (h : regAt off = none) (d : Word) (s : State)
    (rest : List Transaction) :
    step { s with script := .write off d :: rest } =
      .next { s with script := rest, fault := keptFault s 3 } := by
  rw [step_of_script rfl, afterTransact_write_unmapped h, raise_eq_setFault]
  rfl

/-- The step that reads where no register is. -/
theorem step_read_unmapped {off : Offset} (h : regAt off = none) (s : State)
    (rest : List Transaction) :
    step { s with script := .read off :: rest } =
      .next { s with script := rest, fault := keptFault s 3,
                     observed := s.observed ++ [0x00000000] } := by
  rw [step_of_script rfl, afterTransact_read_unmapped h, raise_eq_setFault]
  rfl

/-- A write to a read-only register is a bad access (R57). -/
theorem afterWriteReg_readOnly {reg : Reg} (h : isReadOnly reg = true) (d : Word) (s : State) :
    afterWriteReg reg d s = raise s .badAccess := by
  cases reg with
  | status | plen | y => rfl
  | _ => cases h

/-- The step that writes a read-only register. -/
theorem step_write_readOnly {reg : Reg} (h : isReadOnly reg = true) (d : Word) (s : State)
    (rest : List Transaction) :
    step { s with script := .write (offsetOf reg) d :: rest } =
      .next { s with script := rest, fault := keptFault s 3 } := by
  rw [step_write_reg, afterWriteReg_readOnly h, raise_eq_setFault]
  rfl

/-- Settles O15: no mapped offset is misaligned. -/
theorem misalignedAccess : Obligations.MisalignedAccess := fun s _ d rest hoff =>
  have hnone := regAt_of_misaligned hoff
  ⟨step_write_unmapped hnone d s rest, step_read_unmapped hnone s rest⟩

/-- Settles O16: four gaps in the map, and everything past HDR4. -/
theorem reservedOffsetAccess : Obligations.ReservedOffsetAccess := by
  intro s off d rest hoff
  have hnone : regAt off = none := by
    rcases hoff with rfl | rfl | rfl | rfl | ⟨hpast, -⟩
    case inr.inr.inr.inr => exact regAt_of_past_hdr4 hpast
    all_goals rfl
  exact ⟨step_write_unmapped hnone d s rest, step_read_unmapped hnone s rest⟩

/-- Settles O17: the three offsets are those of the read-only registers. -/
theorem readOnlyWrite : Obligations.ReadOnlyWrite := by
  rintro s off d rest (rfl | rfl | rfl)
  · exact step_write_readOnly (reg := .status) rfl d s rest
  · exact step_write_readOnly (reg := .plen) rfl d s rest
  · exact step_write_readOnly (reg := .y) rfl d s rest

/-! ### The value of every register -/

/-- The STATUS word as a number: FAULT from bit 8 up, EQ, VALID and OK in bits 2 to 0 (R33). -/
theorem statusWord_eq_ofNat (s : State) :
    statusWord s = BitVec.ofNat 32 (s.fault.toNat * 2 ^ 8 + s.eqFlag.toNat * 2 ^ 2
      + s.validFlag.toNat * 2 + s.okFlag.toNat) := by
  rw [statusWord]
  generalize s.fault = f
  generalize s.eqFlag = e
  generalize s.validFlag = v
  generalize s.okFlag = o
  revert f e v o
  decide

/-- The table of read values pairs each register's offset with its value on the bus (R53). -/
theorem readValues_eq_map (s : State) :
    readValues s = mappedRegs.map fun reg => (offsetOf reg, readReg reg s) := by
  simp only [readValues, ← statusWord_eq_ofNat, BitVec.ofNat_toNat, ofNat_num32]
  rfl

/-- Settles O14: a value of the table is its register's, and an offset outside the map is a bad
access. -/
theorem busReadValues : Obligations.BusReadValues := by
  refine ⟨fun s off v rest hmem => ?_, fun s off rest hoff => ?_⟩
  · rw [readValues_eq_map] at hmem
    obtain ⟨reg, -, hreg⟩ := List.mem_map.1 hmem
    cases hreg
    exact step_read_reg reg rfl
  · have hnone : regAt off = none := hoff.elim regAt_of_misaligned (regAt_eq_none_iff off).2
    exact step_read_unmapped hnone s rest

/-! ### Accesses done twice -/

/-- No cause has code 0, which stands for no fault (R201). -/
theorem faultBits_ne_zero (c : FaultCode) : faultBits c ≠ 0 := by
  cases c <;> decide

/-- A second cause of the same fault changes nothing (R203). -/
theorem raise_raise (s : State) (c : FaultCode) : raise (raise s c) c = raise s c := by
  rcases raise_cases s c with ⟨-, e⟩ | ⟨-, e⟩
  · rw [e]
    exact if_neg (faultBits_ne_zero c)
  · rw [e, e]

/-- The second of two equal window writes changes nothing: it writes back what the window holds. -/
theorem put32_put32 (h : Header) (o : Nat) (v : Word) (ho : o + 3 < 20) :
    put32 (put32 h o v ho) o v ho = put32 h o v ho := by
  have hback := put32_be32 (put32 h o v ho) o ho
  rwa [be32_put32] at hback

/-- The second of two equal writes to a register other than CMD changes nothing (R61, R231, R232). -/
theorem afterWriteReg_idem {reg : Reg} (hcmd : reg ≠ .cmd) (d : Word) (s : State) :
    afterWriteReg reg d (afterWriteReg reg d s) = afterWriteReg reg d s := by
  cases reg with
  | cmd => exact absurd rfl hcmd
  | ctrl => simp only [afterWriteReg_ctrl]; split <;> rfl
  | status | plen | y => exact raise_raise s .badAccess
  | hdr k =>
    simp only [afterWriteReg_hdr, State.setHdr_hdr, put32_put32]
    rfl
  | _ => rfl

/-- The second of two equal writes to an offset other than CMD's changes nothing. -/
theorem afterTransact_write_idem {off : Offset} (hcmd : off ≠ 0x04) (d : Word) (s : State) :
    afterTransact (.write off d) (afterTransact (.write off d) s) = afterTransact (.write off d) s := by
  cases hreg : regAt off with
  | none => simp only [afterTransact_write_unmapped hreg, raise_raise]
  | some reg =>
    obtain rfl := (regAt_eq_some_iff off reg).1 hreg
    have hne : reg ≠ .cmd := by
      rintro rfl
      exact hcmd rfl
    simp only [afterTransact_write_offsetOf, afterWriteReg_idem hne]

/-- No register's value depends on what the host has read. -/
theorem readReg_setObserved (reg : Reg) (s : State) (vs : List Word) :
    readReg reg (s.setObserved vs) = readReg reg s := by
  cases reg <;> rfl

/-- A read of a register changes nothing but the observation (R61). -/
theorem transact_read_reg (reg : Reg) (s : State) :
    transact (.read (offsetOf reg)) s =
      .next (s.setObserved (s.observed ++ [readReg reg s])) := by
  rw [transact_eq, afterTransact_read_offsetOf, observe]

/-- Settles O18: writes done twice, and a read's value, which its own observation does not change. -/
theorem accessesAreIdempotent : Obligations.AccessesAreIdempotent := by
  refine ⟨fun s off d hcmd => ⟨_, transact_eq _ s, ?_⟩, fun s off hmapped => ?_⟩
  · rw [transact_eq, afterTransact_write_idem hcmd]
  · obtain ⟨reg, rfl⟩ := (mem_mappedOffsets_iff off).1 hmapped
    refine ⟨readReg reg s, transact_read_reg reg s, ?_⟩
    refine (transact_read_reg reg (s.setObserved (s.observed ++ [readReg reg s]))).trans ?_
    rw [readReg_setObserved, State.setObserved_observed, List.append_assoc]
    rfl

/-! ### The windows after ENCODE -/

/-- The 20 bytes pack writes (R100). -/
theorem pack_eq (mk : Byte) (f : Fields) :
    pack mk f =
      #v[f.sp.extractLsb' 8 8, f.sp.extractLsb' 0 8, f.dp.extractLsb' 8 8, f.dp.extractLsb' 0 8,
        f.seq.extractLsb' 24 8, f.seq.extractLsb' 16 8, f.seq.extractLsb' 8 8, f.seq.extractLsb' 0 8,
        f.ack.extractLsb' 24 8, f.ack.extractLsb' 16 8, f.ack.extractLsb' 8 8, f.ack.extractLsb' 0 8,
        mk, f.fl, f.ws.extractLsb' 8 8, f.ws.extractLsb' 0 8, 0x00, 0x00, 0x00, 0x00] := by
  simp [pack, put8, put16, put32, blankHeader, Config.urgentPointer, Vector.replicate,
    Array.replicate]

/-! The fields of a packed header (R79). -/

@[simp] theorem srcOf_pack (mk : Byte) (f : Fields) : srcOf (pack mk f) = f.sp := by
  rw [pack_eq]; exact halves16 f.sp

@[simp] theorem dstOf_pack (mk : Byte) (f : Fields) : dstOf (pack mk f) = f.dp := by
  rw [pack_eq]; exact halves16 f.dp

@[simp] theorem seqOf_pack (mk : Byte) (f : Fields) : seqOf (pack mk f) = f.seq := by
  rw [pack_eq]; exact quarters32 f.seq

@[simp] theorem ackOf_pack (mk : Byte) (f : Fields) : ackOf (pack mk f) = f.ack := by
  rw [pack_eq]; exact quarters32 f.ack

@[simp] theorem markerOf_pack (mk : Byte) (f : Fields) : markerOf (pack mk f) = mk := by
  rw [pack_eq]; rfl

@[simp] theorem flagsOf_pack (mk : Byte) (f : Fields) : flagsOf (pack mk f) = f.fl := by
  rw [pack_eq]; rfl

@[simp] theorem winOf_pack (mk : Byte) (f : Fields) : winOf (pack mk f) = f.ws := by
  rw [pack_eq]; exact halves16 f.ws

@[simp] theorem csumOf_pack (mk : Byte) (f : Fields) : csumOf (pack mk f) = 0 := by
  rw [pack_eq]; exact halves16 0

@[simp] theorem urgOf_pack (mk : Byte) (f : Fields) : urgOf (pack mk f) = 0 := by
  rw [pack_eq]; exact halves16 0

/-! The five windows as the fields of R79 stand in them (R58, R59). -/

/-- A window's number is its two halves, the high one first. -/
theorem num32_eq_be16 (h : Header) (o : Nat) (ho : o + 3 < 20) :
    num32 h o ho = (be16 h o).toNat * 2 ^ 16 + (be16 h (o + 2)).toNat := by
  rw [num32, be16_toNat, be16_toNat]
  ring

/-- HDR0: the two ports. -/
theorem num32_hdr0 (h : Header) : num32 h 0 = (srcOf h).toNat * 2 ^ 16 + (dstOf h).toNat :=
  num32_eq_be16 h 0 (by omega)

/-- HDR1: the sequence number. -/
theorem num32_hdr1 (h : Header) : num32 h 4 = (seqOf h).toNat := (be32_toNat h 4 (by omega)).symm

/-- HDR2: the acknowledgement number. -/
theorem num32_hdr2 (h : Header) : num32 h 8 = (ackOf h).toNat := (be32_toNat h 8 (by omega)).symm

/-- HDR3: the marker, the flags and the window size. -/
theorem num32_hdr3 (h : Header) : num32 h 12 =
    (markerOf h).toNat * 2 ^ 24 + (flagsOf h).toNat * 2 ^ 16 + (winOf h).toNat := by
  rw [num32, winOf, be16_toNat, markerOf, flagsOf]
  ring

/-- HDR4: the checksum and the urgent pointer. -/
theorem num32_hdr4 (h : Header) : num32 h 16 = (csumOf h).toNat * 2 ^ 16 + (urgOf h).toNat :=
  num32_eq_be16 h 16 (by omega)

/-- Settles O43: each window's number, of the fields ENCODE packs. -/
theorem windowsAfterEncode : Obligations.WindowsAfterEncode := by
  intro s
  refine ⟨effect .encode s, exec_eq_effect .encode s, ?_⟩
  rw [num32_hdr0, num32_hdr1, num32_hdr2, num32_hdr3, num32_hdr4]
  simp [fieldsOf]

end Sys2Proof.Machine
end

section
/-! PROOFS. The family Encoding (30_encoding.md): a word as its two fields, the opcode map read both ways,
what decoding a word can answer, the illegal words, and the pseudo-instructions. -/

namespace Sys2Proof.Machine

/-! ### The two fields of a command word (R75) -/

/-- A word is its RSV field above its OP field. -/
theorem rsvField_append_opField (w : Word) : rsvField w ++ opField w = w := by
  rw [rsvField, opField, BitVec.extractLsb'_append_extractLsb'_eq_extractLsb' (by rfl)]
  exact BitVec.extractLsb'_eq_self

/-- The fields of a word determine it. -/
theorem eq_append_iff (w : Word) (r : BitVec 24) (op : BitVec 8) :
    w = r ++ op ↔ rsvField w = r ∧ opField w = op := by
  constructor
  · rintro rfl
    exact ⟨BitVec.extractLsb'_append_eq_left, BitVec.extractLsb'_append_eq_right⟩
  · rintro ⟨rfl, rfl⟩
    exact (rsvField_append_opField w).symm

/-- OP as a number. -/
theorem opField_toNat (w : Word) : (opField w).toNat = w.toNat % 256 := by
  simp [opField]

/-- RSV as a number. -/
theorem rsvField_toNat (w : Word) : (rsvField w).toNat = w.toNat / 256 := by
  have := w.isLt
  simp only [rsvField, BitVec.extractLsb'_toNat, Nat.shiftRight_eq_div_pow]
  omega

/-- A reserved bit is set exactly in the words past the low byte. -/
theorem rsvField_ne_zero_iff (w : Word) : rsvField w ≠ 0#24 ↔ 256 ≤ w.toNat := by
  rw [ne_eq, ← BitVec.toNat_inj, rsvField_toNat, BitVec.toNat_ofNat]
  omega

/-! ### The opcode map (R76) -/

/-- The map read from OP to mnemonic is the map read from mnemonic to OP. -/
theorem instrOfOp_eq_some_iff (op : BitVec 8) (i : Instr) : instrOfOp op = some i ↔ op = opcodeOf i := by
  constructor
  · intro h
    unfold instrOfOp at h
    split at h <;> cases h <;> exact BitVec.eq_of_toNat_eq ‹_›
  · rintro rfl
    cases i <;> rfl

/-- The two gaps of the map (R80). -/
theorem instrOfOp_eq_none_iff (op : BitVec 8) :
    instrOfOp op = none ↔ (0x0A ≤ op.toNat ∧ op.toNat ≤ 0x0F) ∨ 0x14 ≤ op.toNat := by
  revert op
  decide

/-! ### Decoding (R77) -/

/-- All that decoding can answer: the reserved bits are tested first, then the opcode map. -/
theorem decodeWord_cases (w : Word) :
    (rsvField w ≠ 0#24 ∧ decodeWord w = .error .reservedBits) ∨
    (rsvField w = 0#24 ∧ instrOfOp (opField w) = none ∧ decodeWord w = .error .unassignedOp) ∨
    (rsvField w = 0#24 ∧ ∃ i, instrOfOp (opField w) = some i ∧ decodeWord w = .ok i) := by
  by_cases hrsv : rsvField w = 0#24
  · cases hop : instrOfOp (opField w) with
    | none => exact .inr (.inl ⟨hrsv, rfl, by simp [decodeWord, hrsv, hop]⟩)
    | some i => exact .inr (.inr ⟨hrsv, i, rfl, by simp [decodeWord, hrsv, hop]⟩)
  · exact .inl ⟨hrsv, if_pos hrsv⟩

/-- A command has one word (R81). -/
theorem decodeWord_eq_ok_iff (w : Word) (i : Instr) : decodeWord w = .ok i ↔ w = encodeInstr i := by
  rw [encodeInstr, eq_append_iff, ← instrOfOp_eq_some_iff]
  rcases decodeWord_cases w with ⟨hrsv, hd⟩ | ⟨-, hop, hd⟩ | ⟨hrsv, j, hop, hd⟩
  · simp [hd, hrsv]
  · simp [hd, hop]
  · simp [hd, hrsv, hop]

/-- The words refused for their reserved bits. -/
theorem decodeWord_eq_reservedBits_iff (w : Word) :
    decodeWord w = .error .reservedBits ↔ 256 ≤ w.toNat := by
  rw [← rsvField_ne_zero_iff]
  rcases decodeWord_cases w with ⟨hrsv, hd⟩ | ⟨hrsv, -, hd⟩ | ⟨hrsv, _, -, hd⟩ <;> simp [hd, hrsv]

/-- Settles O3: a word is its two fields, and the opcode map reads the same both ways. -/
theorem decodeExactlyTheCommandWords : Obligations.DecodeExactlyTheCommandWords :=
  ⟨decodeWord_eq_ok_iff, decodeWord_eq_reservedBits_iff⟩

/-- Decoding undoes encoding. -/
@[simp] theorem decodeWord_encodeInstr (i : Instr) : decodeWord (encodeInstr i) = .ok i :=
  (decodeWord_eq_ok_iff _ i).2 rfl

/-- Settles O2: a command's word is the one that decodes to it. -/
theorem decodeOfEncode : Obligations.DecodeOfEncode := fun i _ => decodeWord_encodeInstr i

/-- Settles O1: each of the fourteen words is its command's; the three neighbours are computed. -/
theorem opcodeMapWordsDecode : Obligations.OpcodeMapWordsDecode :=
  have decodes := decodeWord_encodeInstr
  ⟨decodes .nop, decodes .encode, decodes .stamp, decodes .verify, decodes .recover, decodes .decode,
    decodes .extSeq, decodes .extAck, decodes .extFlg, decodes .extWin, decodes .seqMod,
    decodes .seqInc, decodes .seqRange, decodes .seqEq, rfl, rfl, rfl⟩

/-! ### Illegal words (R80) -/

/-- The words that decode to no command. -/
theorem decodeWord_error_iff (w : Word) :
    (∃ e, decodeWord w = .error e) ↔
      256 ≤ w.toNat ∨ (0x0A ≤ w.toNat % 256 ∧ w.toNat % 256 ≤ 0x0F) ∨ 0x14 ≤ w.toNat % 256 := by
  rw [← rsvField_ne_zero_iff, ← opField_toNat, ← instrOfOp_eq_none_iff]
  rcases decodeWord_cases w with ⟨hrsv, hd⟩ | ⟨-, hop, hd⟩ | ⟨hrsv, _, hop, hd⟩
  · simp [hd, hrsv]
  · simp [hd, hop]
  · simp [hd, hrsv, hop]

/-- A word that decodes to no command raises ILLEGAL_CMD; with a fault pending neither the suppressed
issue nor the fault primitive changes anything (R180, R203). -/
theorem afterIssue_of_error {w : Word} {e : DecodeError} (hdecode : decodeWord w = .error e)
    (s : State) : afterIssue w s = raise s .illegalCmd := by
  rcases afterIssue_cases w s with ⟨hfault, h⟩ | ⟨-, -, h⟩ | ⟨-, _, hok, -⟩
  · exact h.trans (if_neg hfault).symm
  · exact h
  · cases hdecode.symm.trans hok

/-- Settles O4: an illegal word decodes to no command, and its issue is the fault primitive. -/
theorem illegalWordsRaise : Obligations.IllegalWordsRaise := by
  refine ⟨fun s w rest hillegal => ?_, fun w hlegal => ?_⟩
  · obtain ⟨e, hdecode⟩ := (decodeWord_error_iff w).2 hillegal
    refine (step_write_reg .cmd w s rest).trans ?_
    rw [afterWriteReg_cmd, afterIssue_of_error hdecode, raise_eq_setFault]
    rfl
  · cases hdecode : decodeWord w with
    | error e => exact absurd ((decodeWord_error_iff w).1 ⟨e, hdecode⟩) hlegal
    | ok i => exact ⟨i, rfl⟩

/-! ### The pseudo-instructions (R83) -/

/-- Settles O51: the offsets of R54 and the command words of R76, put in each line's expansion. -/
theorem pseudoInstructionExpansions : Obligations.PseudoInstructionExpansions :=
  ⟨rfl, fun _ _ _ _ _ => rfl, rfl, fun _ => rfl⟩

end Sys2Proof.Machine
end

section
/-! PROOFS. The family Header codec (40_header_codec.md): the header fields as the numbers of their bytes, pack
and unpack undoing each other, and what ENCODE, DECODE and the four field readers write. -/

namespace Sys2Proof.Machine

/-! ### A header field as a number -/

/-- A 16-bit field, written as the number its two bytes stand for. -/
theorem ofNat_num16 (h : Header) (o : Nat) (ho : o + 1 < 20) :
    BitVec.ofNat 16 (num16 h o ho) = be16 h o ho := by
  rw [num16, ← be16_toNat, BitVec.ofNat_toNat, BitVec.setWidth_eq]

/-- A 16-bit field is zero exactly when both its bytes are. -/
theorem num16_eq_zero_iff (h : Header) (o : Nat) (ho : o + 1 < 20) :
    num16 h o ho = 0 ↔ h[o] = 0x00 ∧ h[o + 1] = 0x00 := by
  simp [num16, ← BitVec.toNat_inj]

/-- A byte of a value of any width, as a number. -/
theorem extractLsb'_eq_ofNat_div {w : Nat} (v : BitVec w) (j : Nat) :
    v.extractLsb' j 8 = BitVec.ofNat 8 (v.toNat / 2 ^ j) := by
  rw [← Nat.shiftRight_eq_div_pow]
  rfl

/-! ### Pack and unpack undo each other (R108, R109) -/

/-- Every field is read back as it was packed. -/
theorem unpack_pack (mk : Byte) (f : Fields) : unpack (pack mk f) = f := by
  simp [unpack]

/-- No field that unpack reads lies in the checksum bytes, where STAMP writes. -/
theorem unpack_put16_csum (h : Header) (v : Half) : unpack (put16 h 16 v) = unpack h :=
  unpack_eq_of_sameBytes (sameBytes_put16_apart h 16 (by omega) v (.inl le_rfl))

/-- A byte after unpack and pack: the marker in byte 12, the old ones below byte 16, zeros above. -/
theorem pack_unpack_getElem (mk : Byte) (h : Header) (i : Nat) (hi : i < 20) :
    (pack mk (unpack h))[i] = if i = 12 then mk else if i < 16 then h[i] else 0x00 := by
  have hseq := be32_extractLsb' h 4 (by omega)
  have hack := be32_extractLsb' h 8 (by omega)
  simp only [pack_eq, unpack, srcOf, dstOf, seqOf, ackOf, flagsOf, winOf, be16_high, be16_low]
  interval_cases i
  exacts [rfl, rfl, rfl, rfl, hseq 0 (by decide), hseq 1 (by decide), hseq 2 (by decide),
    hseq 3 (by decide), hack 0 (by decide), hack 1 (by decide), hack 2 (by decide),
    hack 3 (by decide), rfl, rfl, rfl, rfl, rfl, rfl, rfl, rfl]

/-- Unpack and pack restore a header only if its marker is the packed one and its checksum and urgent
pointer are zero. -/
theorem pack_unpack_eq_self_iff (mk : Byte) (h : Header) :
    pack mk (unpack h) = h ↔ h[12] = mk ∧ num16 h 16 = 0 ∧ num16 h 18 = 0 := by
  have hbyte := pack_unpack_getElem mk h
  rw [num16_eq_zero_iff, num16_eq_zero_iff]
  constructor
  · intro heq
    rw [heq] at hbyte
    exact ⟨hbyte 12 _, ⟨hbyte 16 _, hbyte 17 _⟩, hbyte 18 _, hbyte 19 _⟩
  · rintro ⟨h12, ⟨h16, h17⟩, h18, h19⟩
    ext1 i hi
    rw [hbyte]
    split_ifs with hmarker hfield
    · subst hmarker; exact h12.symm
    · rfl
    · obtain rfl | rfl | rfl | rfl : i = 16 ∨ i = 17 ∨ i = 18 ∨ i = 19 := by omega
      exacts [h16.symm, h17.symm, h18.symm, h19.symm]

/-- The six field registers after DECODE. -/
theorem fieldsOf_effect_decode (s : State) : fieldsOf (effect .decode s) = unpack s.hdr := rfl

/-- Settles O41: DECODE reads back what ENCODE packed, and the STAMP between writes no byte it reads. -/
theorem unpackAfterPack : Obligations.UnpackAfterPack := by
  refine ⟨unpack_pack, fun s n => ⟨_, _, _, _, exec_eq_effect .encode s, exec_eq_effect .decode _, ?_,
    exec_eq_effect .stamp _, exec_eq_effect .decode _, ?_⟩⟩
  · rw [fieldsOf_effect_decode, effect_encode, State.setHdr_hdr, unpack_pack]
  · rw [fieldsOf_effect_decode, effect_stamp, State.setHdr_hdr, unpack_put16_csum]
    exact unpack_pack Config.marker (fieldsOf s)

/-- Settles O42: byte by byte for pack after unpack, which is what DECODE then ENCODE leave in HDR. -/
theorem packAfterUnpack : Obligations.PackAfterUnpack := by
  refine ⟨fun mk h => ?_, fun s => ⟨_, _, exec_eq_effect .decode s, exec_eq_effect .encode _, ?_⟩⟩
  · have hbyte := pack_unpack_getElem mk h
    refine ⟨fun i hi _ hhigh => ?_, fun i hi hlow hhigh => ?_, hbyte 12 _, hbyte 16 _, hbyte 17 _,
      hbyte 18 _, hbyte 19 _⟩
    · rw [hbyte, if_neg (by omega), if_pos (by omega)]
    · rw [hbyte, if_neg (by omega), if_pos hhigh]
  · rw [effect_encode, State.setHdr_hdr, fieldsOf_effect_decode]
    exact pack_unpack_eq_self_iff Config.marker s.hdr

/-! ### What each codec command writes -/

/-- Settles O30: the 20 bytes of pack, each as a number. -/
theorem encodeResult : Obligations.EncodeResult := by
  refine ⟨rfl, fun s => ⟨effect .encode s, exec_eq_effect .encode s, rfl, ?_⟩⟩
  rw [effect_encode, State.setHdr_hdr, pack_eq]
  simp [extractLsb'_eq_ofNat_div, fieldsOf]

/-- Settles O31: the fields of unpack, each as the number of its bytes. -/
theorem decodeResult : Obligations.DecodeResult := by
  refine ⟨rfl, fun s => ?_⟩
  rw [ofNat_num16, ofNat_num16, ofNat_num16, ofNat_num32, ofNat_num32]
  exact exec_eq_effect .decode s

/-- Settles O32: each reader's register is the number of its field's bytes. -/
theorem fieldReaderResults : Obligations.FieldReaderResults := by
  refine ⟨rfl, rfl, rfl, rfl, fun s => ?_⟩
  rw [ofNat_num16, ofNat_num32, ofNat_num32]
  exact ⟨exec_eq_effect .extSeq s, exec_eq_effect .extAck s, exec_eq_effect .extFlg s,
    exec_eq_effect .extWin s⟩

end Sys2Proof.Machine
end

section
/-! PROOFS. The family Checksum (41_checksum.md): the checksum and the recovered length as numbers of the
header's bytes, VERIFY succeeding exactly at the recovered length, what STAMP, VERIFY and RECOVER write, and
how the three fit together. -/

namespace Sys2Proof.Machine

/-! ### The checksum as a number (R131, R132) -/

/-- The checksum in the number form of the statements. -/
theorem csum_toNat (h : Header) (len : Word) : (csum h len).toNat = csumNum h len := by
  rw [csum, not16_toNat, csumSum, trunc16, trunc16, BitVec.toNat_ofNat, BitVec.toNat_ofNat, srcOf,
    dstOf, winOf, urgOf, be16_toNat, be16_toNat, be16_toNat, be16_toNat]
  rfl

/-- VERIFY's comparison in the number form of the statements (R134). -/
theorem okOf_eq_decide (h : Header) (len : Word) :
    okOf h len = decide (num16 h 16 = csumNum h len) := by
  rw [okOf, beq_eq_decide, decide_eq_decide, ← BitVec.toNat_inj, csum_toNat, csumOf, be16_toNat, num16]

/-- Two lengths have one low half exactly when they agree modulo 2^16. -/
theorem setWidth16_eq_iff (m n : Word) :
    m.setWidth 16 = (n.setWidth 16 : Half) ↔ m.toNat % 2 ^ 16 = n.toNat % 2 ^ 16 := by
  rw [← BitVec.toNat_inj, BitVec.toNat_setWidth, BitVec.toNat_setWidth]

/-- Two lengths share a checksum exactly when they agree modulo 2^16 (R137). -/
theorem csum_eq_iff (h : Header) (m n : Word) :
    csum h m = csum h n ↔ m.toNat % 2 ^ 16 = n.toNat % 2 ^ 16 := by
  rw [← setWidth16_eq_iff, csum, csum, not16_eq_not, not16_eq_not, BitVec.not_inj, csumSum_eq_add,
    csumSum_eq_add, add_left_inj, add_left_inj, add_left_inj, add_left_inj]

/-! ### The recovered length as a number (R140) -/

/-- The five header fields that the checksum commands read, added as numbers. -/
def fieldSum (h : Header) : Nat := num16 h 0 + num16 h 2 + num16 h 14 + num16 h 16 + num16 h 18

/-- The recovered length is the complement of the checksum field less the four summed fields. -/
theorem recoveredBits_eq_ofInt (h : Header) :
    recoveredBits h = BitVec.ofInt 16 (0xFFFF - fieldSum h) := by
  have hcsum := (csumOf h).isLt
  rw [recoveredBits, not16_toNat, Nat.cast_sub (by omega), csumOf, srcOf, dstOf, winOf, urgOf,
    be16_toNat, be16_toNat, be16_toNat, be16_toNat, be16_toNat]
  congr 1
  simp only [fieldSum, num16]
  omega

/-- Two headers recover one length exactly when their field sums agree modulo 2^16. -/
theorem recoveredBits_eq_iff (g h : Header) :
    recoveredBits g = recoveredBits h ↔ fieldSum g % 2 ^ 16 = fieldSum h % 2 ^ 16 := by
  rw [recoveredBits_eq_ofInt, recoveredBits_eq_ofInt, ← BitVec.toNat_inj, BitVec.toNat_ofInt,
    BitVec.toNat_ofInt]
  omega

/-- The recovered total length, header included, is the 16-bit pattern read as two's complement. -/
theorem recoveredPlen_add_hdrSize (h : Header) : recoveredPlen h + 20 = (recoveredBits h).toInt := by
  rw [recoveredPlen, sext16_eq_toInt, Config.hdrSize]
  omega

/-- The recovered total length is congruent to what R140 subtracts. -/
theorem recoveredPlen_congr (h : Header) :
    (recoveredPlen h + 20 - (0xFFFF - (fieldSum h : Int))) % 2 ^ 16 = 0 := by
  rw [recoveredPlen_add_hdrSize, recoveredBits_eq_ofInt, BitVec.toInt_ofInt]
  exact Int.emod_eq_emod_iff_emod_sub_eq_zero.1 Int.bmod_emod

/-! ### VERIFY succeeds exactly at the recovered length -/

/-- RECOVER solves VERIFY's equation for the length: the checksum field is right for a length exactly
when that length, modulo 2^16, is the recovered one. -/
theorem okOf_eq_true_iff (h : Header) (len : Word) :
    okOf h len = true ↔ recoveredBits h = len.setWidth 16 := by
  rw [okOf, beq_iff_eq, csum, not16_eq_not, csumSum_eq_add, recoveredBits_eq_sub, sub_eq_iff_eq_add,
    sub_eq_iff_eq_add, sub_eq_iff_eq_add, sub_eq_iff_eq_add, BitVec.not_eq_comm]
  have hsum : len.setWidth 16 + urgOf h + winOf h + dstOf h + srcOf h =
      len.setWidth 16 + srcOf h + dstOf h + winOf h + urgOf h := by ac_rfl
  rw [hsum]

/-- VERIFY fails exactly at the other lengths. -/
theorem okOf_eq_false_iff (h : Header) (len : Word) :
    okOf h len = false ↔ recoveredBits h ≠ len.setWidth 16 := by
  rw [ne_eq, ← okOf_eq_true_iff, Bool.not_eq_true]

/-- The low half of a sign-extended 16-bit pattern is the pattern. -/
theorem setWidth16_signExtend (x : Half) : (x.signExtend 32).setWidth 16 = x := by
  ext i hi
  rw [BitVec.getElem_setWidth, BitVec.getLsbD_signExtend, if_pos hi, BitVec.getLsbD_eq_getElem hi,
    decide_eq_true (hi.trans (by omega)), Bool.true_and]

/-- The recovered length is one at which VERIFY succeeds (R138). -/
theorem okOf_recovered (h : Header) : okOf h (BitVec.ofInt 32 (recoveredPlen h) + 20) = true := by
  have hlen : BitVec.ofInt 32 (recoveredPlen h) + 20 = (recoveredBits h).signExtend 32 := by
    rw [BitVec.signExtend, ← recoveredPlen_add_hdrSize, BitVec.ofInt_add]
    rfl
  rw [okOf_eq_true_iff, hlen, setWidth16_signExtend]

/-- A header that is right for a length that fits 15 bits recovers that length exactly (R143). -/
theorem recoveredPlen_of_okOf {h : Header} {len : Word} (hok : okOf h len = true)
    (hlen : len.toNat < 2 ^ 15) : recoveredPlen h = len.toNat - 20 := by
  have hrec : (recoveredBits h).toNat = len.toNat := by
    rw [(okOf_eq_true_iff h len).1 hok, BitVec.toNat_setWidth, Nat.mod_eq_of_lt (by omega)]
  rw [recoveredPlen, sext16, hrec, if_pos hlen, Config.hdrSize]
  rfl

/-! ### The stamped header -/

/-- The checksum does not read its own field (R133). -/
theorem csum_put16_csum (h : Header) (v : Half) (len : Word) : csum (put16 h 16 v) len = csum h len :=
  csum_eq_of_sameBytes (sameBytes_put16_apart h 16 (by omega) v (.inl (by omega)))
    (sameBytes_put16_apart h 16 (by omega) v (.inl (by omega)))
    (sameBytes_put16_apart h 16 (by omega) v (.inr (by omega))) len

/-- A stamped header is right for the length it was stamped with (R136). -/
theorem okOf_put16_csum (h : Header) (len : Word) : okOf (put16 h 16 (csum h len)) len = true := by
  rw [okOf, csum_put16_csum, csumOf, be16_put16, beq_self_eq_true]

/-- Writing a field's own value back changes no byte. -/
theorem put16_be16 (h : Header) (o : Nat) (ho : o + 1 < 20) : put16 h o (be16 h o ho) ho = h := by
  ext1 i hi
  rw [put16_getElem, be16_high, be16_low]
  split_ifs with hhigh hlow
  · subst hhigh; rfl
  · subst hlow; rfl
  · rfl

/-- Stamping a header that is right for the length changes no byte. -/
theorem put16_csum_of_okOf {h : Header} {len : Word} (hok : okOf h len = true) :
    put16 h 16 (csum h len) = h := by
  rw [← eq_of_beq hok]
  exact put16_be16 h 16 (by omega)

/-! ### What each checksum command writes -/

/-- Settles O34: VERIFY's comparison in numbers. -/
theorem verifyResult : Obligations.VerifyResult := by
  refine ⟨rfl, fun s => ?_⟩
  rw [← okOf_eq_decide]
  exact exec_eq_effect .verify s

/-- Settles O33: the field reads back as the checksum; the stamped header is right for LEN, so the second
STAMP changes nothing. -/
theorem stampResult : Obligations.StampResult := by
  refine ⟨rfl, fun s => ⟨_, exec_eq_effect .stamp s, rfl, ?_,
    sameBytes_put16_apart s.hdr 16 (by omega) _ (.inl le_rfl),
    sameBytes_put16_apart s.hdr 16 (by omega) _ (.inr le_rfl), ?_⟩⟩
  · rw [effect_stamp, State.setHdr_hdr, num16, ← be16_toNat, be16_put16, csum_toNat]
  · rw [exec_eq_effect, effect_stamp, effect_stamp, State.setHdr_hdr, State.setHdr_len,
      put16_csum_of_okOf (okOf_put16_csum s.hdr s.len)]
    rfl

/-- Settles O35: PLEN holds the recovered payload length, in its range and congruent as R140 says. -/
theorem recoverResult : Obligations.RecoverResult := by
  refine ⟨rfl, fun s => ⟨recoveredPlen s.hdr, _, exec_eq_effect .recover s, rfl,
    recoveredPlen_toInt s.hdr, (recoveredPlen_range s.hdr).1, (recoveredPlen_range s.hdr).2, ?_,
    validOf_eq_true_iff _ _⟩⟩
  have hcongr := recoveredPlen_congr s.hdr
  rw [fieldSum] at hcongr
  omega

/-! ### What VERIFY detects (R135) -/

/-- A changed byte moves the field sum by the change times the byte's weight: 2^8 at an even offset, 1 at
an odd one. -/
theorem fieldSum_set (h : Header) (i : Nat) (hi : i < 20) (hread : i < 4 ∨ 14 ≤ i) (b : Byte) :
    fieldSum (h.set i b) + 2 ^ (8 - 8 * (i % 2)) * h[i].toNat =
      fieldSum h + 2 ^ (8 - 8 * (i % 2)) * b.toNat := by
  obtain rfl | rfl | rfl | rfl | rfl | rfl | rfl | rfl | rfl | rfl : i = 0 ∨ i = 1 ∨ i = 2 ∨ i = 3 ∨
      i = 14 ∨ i = 15 ∨ i = 16 ∨ i = 17 ∨ i = 18 ∨ i = 19 := by omega
  all_goals
    simp [fieldSum, num16]
    omega

/-- One changed byte among those the checksum commands read changes the recovered length: the change
times its weight is not 0 and less than 2^16. -/
theorem recoveredBits_set_ne (h : Header) (i : Nat) (hi : i < 20) (hread : i < 4 ∨ 14 ≤ i) {b : Byte}
    (hb : b ≠ h[i]) : recoveredBits (h.set i b) ≠ recoveredBits h := by
  rw [ne_eq, recoveredBits_eq_iff]
  have hset := fieldSum_set h i hi hread b
  have hne : b.toNat ≠ h[i].toNat := mt BitVec.eq_of_toNat_eq hb
  have hold := h[i].isLt
  have hnew := b.isLt
  obtain heven | hodd := Nat.mod_two_eq_zero_or_one i
  · rw [heven] at hset; omega
  · rw [hodd] at hset; omega

/-- Flipping one bit of a byte changes it. -/
theorem xor_bit_ne (x : Byte) {k : Nat} (hk : k < 8) : x ^^^ BitVec.ofNat 8 (2 ^ k) ≠ x := by
  have hbit : BitVec.ofNat 8 (2 ^ k) ≠ 0#8 := by
    interval_cases k <;> decide
  exact mt xor_left_eq_self_iff.1 hbit

/-- Settles O44: a flipped bit changes the recovered length, another LEN is not the recovered one, and
VERIFY does not read bytes 4 to 13. -/
theorem verifyDetection : Obligations.VerifyDetection := by
  intro s hright
  have hok : okOf s.hdr s.len = true := by
    rw [okOf_eq_decide]
    exact decide_eq_true hright
  have hrec := (okOf_eq_true_iff _ _).1 hok
  refine ⟨fun i k hi hread hk => ⟨_, exec_eq_effect .verify _, ?_⟩,
    fun n hn => ⟨_, exec_eq_effect .verify _, ?_⟩, fun g h0 h14 => ⟨_, exec_eq_effect .verify _, ?_⟩⟩
  all_goals rw [effect_verify, State.setOkFlag_okFlag]
  · rw [okOf_eq_false_iff, ← hrec]
    exact recoveredBits_set_ne s.hdr i hi hread (xor_bit_ne _ hk)
  · rw [okOf_eq_false_iff, hrec, ne_eq, setWidth16_eq_iff]
    exact hn.symm
  · exact (okOf_eq_of_sameBytes h0 h14 s.len).trans hok

/-! ### The three commands together -/

/-- Settles O45: the stamped header is right for LEN, and VERIFY reads only the bytes that stay. -/
theorem stampThenVerify : Obligations.StampThenVerify := by
  refine fun s => ⟨_, exec_eq_effect .stamp s, fun u hlen h0 h14 => ⟨_, exec_eq_effect .verify u, ?_⟩⟩
  rw [effect_verify, State.setOkFlag_okFlag, hlen, okOf_eq_of_sameBytes h0 h14]
  exact okOf_put16_csum s.hdr s.len

/-- Settles O46: the checksum fixes the length modulo 2^16 and no more. -/
theorem lengthAliasing : Obligations.LengthAliasing := by
  refine ⟨fun s k hk => ?_, fun h m n hm hn heq => ?_⟩
  · have hcsum : csum s.hdr (BitVec.ofNat 32 (s.len.toNat + k * 2 ^ 16)) = csum s.hdr s.len := by
      rw [csum_eq_iff, BitVec.toNat_ofNat, Nat.mod_eq_of_lt hk, Nat.add_mul_mod_self_right]
    refine ⟨hcsum, _, _, exec_eq_effect .verify s, exec_eq_effect .verify _, ?_⟩
    simp only [effect_verify, State.setOkFlag_okFlag, okOf, hcsum]
  · rw [csum_eq_iff] at heq
    rw [Config.mss] at hm hn
    apply BitVec.eq_of_toNat_eq
    omega

/-- Settles O47: PLEN + 20 is the recovered length. -/
theorem verifyWithRecoveredLength : Obligations.VerifyWithRecoveredLength :=
  fun s => ⟨_, _, exec_eq_effect .recover s, exec_eq_effect .verify _, okOf_recovered s.hdr⟩

/-- Settles O48: the stamped header is right for 20 + n, which fits 15 bits. -/
theorem exactRecovery : Obligations.ExactRecovery := by
  intro s n hn hlen
  refine ⟨_, _, exec_eq_effect .stamp s, exec_eq_effect .recover _, ?_⟩
  have hplen : recoveredPlen (effect .stamp s).hdr = n := by
    rw [effect_stamp, State.setHdr_hdr,
      recoveredPlen_of_okOf (okOf_put16_csum s.hdr s.len) (by omega), hlen]
    omega
  have hvalid := validOf_eq_true_iff n s.buflen
  rw [effect_recover, hplen]
  constructor
  · rw [State.setValidFlag_plen, State.setPlen_plen, BitVec.ofInt_natCast, BitVec.toNat_ofNat]
    omega
  · rw [State.setValidFlag_validFlag]
    exact hvalid.trans (by omega)

end Sys2Proof.Machine
end

section
/-! PROOFS. The family Seq (42_seq_arith.md): what each sequence-number helper answers with R = 0 and with
R not 0, the assignment of R165, and SEQ_INC agreeing with SEQ_MOD on the next position. -/

namespace Sys2Proof.Machine

/-- Every command is well-formed. -/
theorem wf_eq_true (i : Instr) : i.wf = true := by
  cases i <;> rfl

/-! ### The modulus test of each helper (R160) -/

/-- With R = 0 each of the three modular helpers records RANGE_ZERO and writes no result. -/
theorem exec_of_zero_range {i : Instr} {s : State} (hi : i ∈ [Instr.seqMod, .seqInc, .seqEq])
    (hr : s.r = 0) : exec i s = .next (s.setFault (keptFault s 2)) := by
  have hraise : effect i s = raise s .rangeZero := by
    obtain rfl | rfl | rfl : i = .seqMod ∨ i = .seqInc ∨ i = .seqEq := by simpa using hi
    · rw [effect_seqMod, if_pos hr]
    · rw [effect_seqInc, if_pos hr]
    · rw [effect_seqEq, if_pos hr]
  rw [exec_eq_effect, hraise, raise_eq_setFault, faultBits]

/-- SEQ_MOD with a modulus (R161). -/
theorem exec_seqMod_of_ne {s : State} (hr : s.r ≠ 0) :
    exec .seqMod s = .next (s.setY (BitVec.ofNat 32 (s.a.toNat % s.r.toNat))) := by
  rw [exec_eq_effect, effect_seqMod, if_neg hr]

/-- SEQ_INC with a modulus: the sum is exact (R162). -/
theorem exec_seqInc_of_ne {s : State} (hr : s.r ≠ 0) :
    exec .seqInc s = .next (s.setY (BitVec.ofNat 32 ((s.a.toNat + 1) % s.r.toNat))) := by
  rw [exec_eq_effect, effect_seqInc, if_neg hr]

/-- SEQ_EQ's comparison as one of numbers (R164). -/
theorem eqOf_eq_decide (a b : Word) (n : Nat) : eqOf a b n = decide (a.toNat = b.toNat % n) := rfl

/-- SEQ_EQ with a modulus (R164). -/
theorem exec_seqEq_of_ne {s : State} (hr : s.r ≠ 0) :
    exec .seqEq s = .next (s.setEqFlag (decide (s.a.toNat = s.b.toNat % s.r.toNat))) := by
  rw [exec_eq_effect, effect_seqEq, if_neg hr, eqOf_eq_decide]

/-! ### What each helper answers -/

/-- Settles O36: the two outcomes of the modulus test. -/
theorem seqModResult : Obligations.SeqModResult :=
  ⟨rfl, fun _ => ⟨exec_seqMod_of_ne, exec_of_zero_range (by simp)⟩⟩

/-- Settles O37: the two outcomes of the modulus test. -/
theorem seqIncResult : Obligations.SeqIncResult :=
  ⟨rfl, fun _ => ⟨exec_seqInc_of_ne, exec_of_zero_range (by simp)⟩⟩

/-- Settles O39: the two outcomes of the modulus test. -/
theorem seqEqResult : Obligations.SeqEqResult :=
  ⟨rfl, fun _ => ⟨exec_seqEq_of_ne, exec_of_zero_range (by simp)⟩⟩

/-- Settles O38: twice a 16-bit number fits 32 bits. -/
theorem seqRangeResult : Obligations.SeqRangeResult := by
  refine ⟨rfl, fun s => ⟨_, exec_eq_effect .seqRange s, rfl, ?_⟩⟩
  have hwin := s.win.isLt
  rw [effect_seqRange, State.setR_r, BitVec.toNat_ofNat]
  omega

/-- Settles O40: each of the three words executes its helper, which meets R = 0; SEQ_RANGE writes R only. -/
theorem zeroRangeFaults : Obligations.ZeroRangeFaults := by
  refine ⟨fun s w rest hfault hr hw => ?_, fun s => ⟨_, exec_eq_effect .seqRange s, rfl⟩⟩
  obtain ⟨i, hi, rfl⟩ : ∃ i ∈ [Instr.seqMod, .seqInc, .seqEq], encodeInstr i = w := by
    obtain rfl | rfl | rfl := hw
    exacts [⟨.seqMod, by simp, rfl⟩, ⟨.seqInc, by simp, rfl⟩, ⟨.seqEq, by simp, rfl⟩]
  rw [stepRunsDecodedInstruction s _ i rest hfault (decodeWord_encodeInstr i) (wf_eq_true i)]
  refine Eq.trans (exec_of_zero_range hi hr) ?_
  rw [keptFault, if_pos hfault]
  rfl

/-! ### Positions and their sequence numbers (R165, R166) -/

/-- The ten sequence numbers of R165 are the positions modulo 4. -/
theorem assigned_eq_mod_four :
    ∀ k : Fin 10, [0, 1, 2, 3, 0, 1, 2, 3, 0, 1].getD k.val 0 = k.val % 4 := by decide

/-- Settles O49: SEQ_MOD with the modulus 4. -/
theorem sequenceAssignment : Obligations.SequenceAssignment := by
  intro s hr k
  have hne : (s.setA (BitVec.ofNat 32 k.val)).r ≠ 0 := by simp [hr]
  have ha : (BitVec.ofNat 32 k.val).toNat = k.val := BitVec.toNat_eq_nat.2 ⟨by omega, rfl⟩
  have hfour : s.r.toNat = 4 := congrArg BitVec.toNat hr
  refine (exec_seqMod_of_ne hne).trans ?_
  rw [State.setA_a, State.setA_r, ha, hfour, assigned_eq_mod_four]
  rfl

/-- Settles O50: reducing the position before the increment leaves the exact sum's residue unchanged. -/
theorem incrementAgreesWithAssignment : Obligations.IncrementAgreesWithAssignment := by
  intro s p hr hp
  refine ⟨_, _, exec_seqInc_of_ne hr, exec_seqMod_of_ne hr, ?_⟩
  have hreduced : (BitVec.ofNat 32 (p % s.r.toNat)).toNat = p % s.r.toNat :=
    BitVec.toNat_eq_nat.2 ⟨(Nat.mod_le p _).trans_lt (by omega), rfl⟩
  have hnext : (BitVec.ofNat 32 (p + 1)).toNat = p + 1 := BitVec.toNat_eq_nat.2 ⟨by omega, rfl⟩
  rw [State.setY_y, State.setY_y, hreduced, hnext, Nat.mod_add_mod]

end Sys2Proof.Machine
end

section
/-! PROOFS. The family Control (43_control.md): a write to CMD as the word stored and then issued, the issue
of a command under a pending fault, and NOP. -/

namespace Sys2Proof.Machine

/-! ### The issue of a command (R180) -/

/-- The step that writes CMD issues the word on the state in which CMD already holds it. -/
theorem step_write_cmd (s : State) (w : Word) (rest : List Transaction) :
    step { s with script := .write 0x04 w :: rest } =
      .next (afterIssue w { s with script := rest, cmd := w }) :=
  (step_write_reg .cmd w s rest).trans (congrArg _ (afterWriteReg_cmd w _))

/-- A pending fault suppresses every word (R205). -/
theorem afterIssue_of_pending {w : Word} {s : State} (hfault : s.fault ≠ 0) : afterIssue w s = s := by
  rcases afterIssue_cases w s with ⟨-, e⟩ | ⟨h, -⟩ | ⟨h, -⟩
  · exact e
  · exact absurd h hfault
  · exact absurd h hfault

/-- No command writes CMD (R78). -/
theorem effect_cmd (i : Instr) (s : State) : (effect i s).cmd = s.cmd := by simp

/-- Settles O6: the three outcomes of the issue, on the state in which CMD holds the word. -/
theorem commandIssue : Obligations.CommandIssue := by
  intro s w rest
  rw [step_write_cmd]
  refine ⟨fun hfault => ?_, fun _ hfault hdecode => ?_, fun i hfault hdecode => ?_⟩
  · exact congrArg _ (afterIssue_of_pending hfault)
  · rw [afterIssue_of_error hdecode, raise_eq_setFault, keptFault, if_pos hfault]
    rfl
  · exact ⟨_, exec_eq_effect i _, congrArg _ (afterIssue_of_ok hfault hdecode), effect_cmd i _⟩

/-! ### NOP (R181) -/

/-- The word of NOP changes nothing as it issues: it is suppressed, or executes without effect. -/
theorem afterIssue_nop (s : State) : afterIssue (encodeInstr .nop) s = s := by
  by_cases hfault : s.fault = 0
  · rw [afterIssue_of_ok hfault (decodeWord_encodeInstr .nop), effect_nop]
  · exact afterIssue_of_pending hfault

/-- Settles O29: the word 0 is NOP's, so the write to CMD leaves the word there and nothing more. -/
theorem nopResult : Obligations.NopResult :=
  ⟨exec_eq_effect .nop, rfl, rfl, fun s rest =>
    (step_write_cmd s (encodeInstr .nop) rest).trans (congrArg _ (afterIssue_nop _))⟩

end Sys2Proof.Machine
end

section
/-! PROOFS. The family Exceptions (60_exceptions.md): what a pending fault suppresses and what it does not,
and the precise frame of every step that records a fault. -/

namespace Sys2Proof.Machine

/-! ### A pending fault suppresses commands only (R205)

Two states agree but for FAULT when they are equal once FAULT is set to 0 in both. -/

/-- The fault primitive touches FAULT only (R203). -/
theorem raise_setFault (s : State) (c : FaultCode) (v : BitVec 4) :
    (raise s c).setFault v = s.setFault v := by
  rw [raise_eq_setFault]
  rfl

/-- A register other than CMD is written alike whatever FAULT holds. -/
theorem afterWriteReg_setFault {reg : Reg} (hcmd : reg ≠ .cmd) (d : Word) (s : State) (v : BitVec 4) :
    (afterWriteReg reg d (s.setFault v)).setFault 0 = (afterWriteReg reg d s).setFault 0 := by
  cases reg with
  | cmd => exact absurd rfl hcmd
  | ctrl => simp only [afterWriteReg_ctrl]; split <;> rfl
  | status | plen | y =>
    rw [afterWriteReg_readOnly rfl, afterWriteReg_readOnly rfl, raise_setFault, raise_setFault]
    rfl
  | _ => rfl

/-- So is every offset other than CMD's, the unmapped ones among them. -/
theorem afterTransact_write_setFault {off : Offset} (hcmd : off ≠ 0x04) (d : Word) (s : State)
    (v : BitVec 4) :
    (afterTransact (.write off d) (s.setFault v)).setFault 0 =
      (afterTransact (.write off d) s).setFault 0 := by
  cases hreg : regAt off with
  | none =>
    simp only [afterTransact_write_unmapped hreg, raise_setFault]
    rfl
  | some reg =>
    obtain rfl := (regAt_eq_some_iff off reg).1 hreg
    have hne : reg ≠ .cmd := by
      rintro rfl
      exact hcmd rfl
    simp only [afterTransact_write_offsetOf, afterWriteReg_setFault hne]

/-- STATUS is the only register whose value shows FAULT. -/
theorem readReg_setFault {reg : Reg} (hstatus : reg ≠ .status) (s : State) (v : BitVec 4) :
    readReg reg (s.setFault v) = readReg reg s := by
  cases reg with
  | status => exact absurd rfl hstatus
  | _ => rfl

/-- A read at an offset other than STATUS's observes the same value whatever FAULT holds. -/
theorem afterTransact_read_setFault {off : Offset} (hstatus : off ≠ 0x08) (s : State) (v : BitVec 4) :
    (afterTransact (.read off) (s.setFault v)).setFault 0 = (afterTransact (.read off) s).setFault 0 := by
  cases hreg : regAt off with
  | none =>
    simp only [afterTransact_read_unmapped hreg, raise_eq_setFault]
    rfl
  | some reg =>
    obtain rfl := (regAt_eq_some_iff off reg).1 hreg
    have hne : reg ≠ .status := by
      rintro rfl
      exact hstatus rfl
    simp only [afterTransact_read_offsetOf, readReg_setFault hne]
    rfl

/-- Settles O7: the issue of a command is suppressed, and no other transaction looks at FAULT. -/
theorem pendingFaultSuppressesOnlyCommands : Obligations.PendingFaultSuppressesOnlyCommands := by
  intro s rest hfault
  refine ⟨fun w => ?_, fun off d hcmd => ?_, fun off hstatus => ?_⟩
  · rw [step_write_cmd]
    exact congrArg _ (afterIssue_of_pending hfault)
  · exact ⟨_, _, step_of_script rfl, step_of_script rfl,
      (afterTransact_write_setFault hcmd d (s.setScript rest) 0).symm⟩
  · exact ⟨_, _, step_of_script rfl, step_of_script rfl,
      (afterTransact_read_setFault hstatus (s.setScript rest) 0).symm⟩

/-! ### Faults are precise (R203)

From FAULT = 0, what records a fault is the fault primitive and nothing beside it. -/

/-- A command that records a fault is a modular helper with R = 0, which does nothing else. -/
theorem effect_of_recorded {i : Instr} {s : State} (h0 : s.fault = 0) (h : (effect i s).fault ≠ 0) :
    effect i s = raise s .rangeZero := by
  rcases effect_cases i s with
    ⟨_, e, -⟩ | ⟨_, e⟩ | ⟨_, e, -⟩ | ⟨e, -⟩ | ⟨_, e⟩ | ⟨_, e⟩ | ⟨_, e, -⟩ | e
  -- the modulus test that raises RANGE_ZERO, then the setters, which keep FAULT at 0
  case inr.inr.inr.inr.inr.inr.inr => exact e
  all_goals exact absurd h0 (by rwa [e] at h)

/-- The issue of a command that records a fault is the fault primitive for an illegal word or R = 0. -/
theorem afterIssue_of_recorded {w : Word} {s : State} (h0 : s.fault = 0)
    (h : (afterIssue w s).fault ≠ 0) : ∃ c, afterIssue w s = raise s c := by
  rcases afterIssue_cases w s with ⟨hne, -⟩ | ⟨-, -, e⟩ | ⟨-, i, -, e⟩
  · exact absurd h0 hne
  · exact ⟨_, e⟩
  · rw [e] at h ⊢
    exact ⟨_, effect_of_recorded h0 h⟩

/-- A write to a register other than CMD that records a fault is a bad access. -/
theorem afterWriteReg_of_recorded {reg : Reg} (hcmd : reg ≠ .cmd) {d : Word} {s : State}
    (h0 : s.fault = 0) (h : (afterWriteReg reg d s).fault ≠ 0) :
    afterWriteReg reg d s = raise s .badAccess := by
  cases reg with
  | cmd => exact absurd rfl hcmd
  | ctrl =>
    rw [afterWriteReg_ctrl] at h
    split at h
    · exact absurd rfl h
    · exact absurd h0 h
  | status | plen | y => rfl
  | _ => exact absurd h0 h

/-- A transaction that records a fault: a command's issue, another write, or a read that returns 0. -/
theorem afterTransact_of_recorded {x : Transaction} {s : State} (h0 : s.fault = 0)
    (h : (afterTransact x s).fault ≠ 0) :
    (∃ w c, x = .write 0x04 w ∧ afterTransact x s = raise (s.setCmd w) c) ∨
    (∃ off d, x = .write off d ∧ afterTransact x s = raise s .badAccess) ∨
    (∃ off, x = .read off ∧ afterTransact x s = observe (0, raise s .badAccess)) := by
  rcases afterTransact_cases x s with ⟨off, d, hx, e⟩ | ⟨reg, d, hx, e⟩ | ⟨off, hx, e⟩ | ⟨_, -, e⟩
  · exact .inr (.inl ⟨off, d, hx, e⟩)
  · rw [e] at h ⊢
    by_cases hcmd : reg = .cmd
    · subst hcmd
      rw [afterWriteReg_cmd] at h ⊢
      obtain ⟨c, hraise⟩ := afterIssue_of_recorded (s := s.setCmd d) h0 h
      exact .inl ⟨d, c, hx, hraise⟩
    · exact .inr (.inl ⟨_, d, hx, afterWriteReg_of_recorded hcmd h0 h⟩)
  · exact .inr (.inr ⟨off, hx, e⟩)
  · rw [e] at h
    exact absurd h0 h

/-- Settles O22: the transaction of a step that records a fault is the fault primitive, after CMD took
the word or before the read observed its 0. -/
theorem faultsAreRecordedAndPrecise : Obligations.FaultsAreRecordedAndPrecise := by
  refine ⟨fun s => ⟨raise_eq_setFault s _, raise_eq_setFault s _, raise_eq_setFault s _⟩, ?_⟩
  intro s t x rest hstep h0 ht
  obtain rfl : t = afterTransact x (s.setScript rest) :=
    Host.Outcome.next.inj (hstep.symm.trans (step_of_script rfl))
  rcases afterTransact_of_recorded (s := s.setScript rest) h0 ht with
    ⟨w, c, hx, e⟩ | ⟨off, d, hx, e⟩ | ⟨off, hx, e⟩
  · exact .inl ⟨w, hx, by rw [e, raise_eq_setFault]; rfl⟩
  · exact .inr (.inl ⟨off, d, hx, by rw [e, raise_eq_setFault]; rfl⟩)
  · exact .inr (.inr ⟨off, hx, by rw [e, raise_eq_setFault]; rfl⟩)

end Sys2Proof.Machine
end

section
/-! PROOFS. The family Reset and hazards (70_reset_and_hazards.md): the write to CTRL, and how long the
results of the commands last. -/

namespace Sys2Proof.Machine

/-! ### The write to CTRL (R231, R232) -/

/-- The soft reset is the power-on reset but for the host's own two fields (log entry 6). -/
theorem softReset_eq_reset (s : State) :
    { softReset s with script := State.reset.script, observed := State.reset.observed } =
      State.reset := rfl

/-- Settles O20: bit 0 of the data decides, and neither FAULT nor the other bits are looked at. (The name
`softReset` is the model's operation.) -/
theorem softReset_of_write_ctrl : Obligations.SoftReset := by
  intro s d rest
  refine ⟨fun hbit => ⟨_, step_write_reg .ctrl d s rest, ?_⟩,
    fun hbit => (step_write_reg .ctrl d s rest).trans (congrArg _ ?_)⟩
  · rw [afterWriteReg_ctrl, if_pos hbit]
    exact softReset_eq_reset _
  · rw [afterWriteReg_ctrl, if_neg (hbit ▸ Bool.false_ne_true)]

/-! ### The result registers through every transaction (R237) -/

/-- The five results of R237: Y, PLEN, VALID, OK and EQ. -/
def resultRegs (s : State) : Word × Word × Bool × Bool × Bool :=
  (s.y, s.plen, s.validFlag, s.okFlag, s.eqFlag)

/-- Equal results are equal one by one. -/
theorem resultRegs_eq_iff (s t : State) : resultRegs t = resultRegs s ↔
    t.y = s.y ∧ t.plen = s.plen ∧ t.validFlag = s.validFlag ∧ t.okFlag = s.okFlag ∧
      t.eqFlag = s.eqFlag := by
  simp only [resultRegs, Prod.mk.injEq]

/-- The fault primitive leaves the results as they are (R203). -/
theorem resultRegs_raise (s : State) (c : FaultCode) : resultRegs (raise s c) = resultRegs s := by
  simp [resultRegs]

/-- The results are left as they are by a command that does not write them (R78). -/
theorem effect_results_frame (i : Instr) (s : State) :
    (i ∉ [.seqMod, .seqInc] → (effect i s).y = s.y) ∧
    (i ∉ [.recover] → (effect i s).plen = s.plen ∧ (effect i s).validFlag = s.validFlag) ∧
    (i ∉ [.verify] → (effect i s).okFlag = s.okFlag) ∧
    (i ∉ [.seqEq] → (effect i s).eqFlag = s.eqFlag) := by
  obtain ⟨t, ht, -, -, -, -, -, -, hrecover, hverify, hseqEq, hy, -⟩ :=
    commandsWriteOnlyTheirRegisters i s
  cases (exec_eq_effect i s).symm.trans ht
  simp only [List.mem_cons, List.not_mem_nil, or_false, not_or]
  exact ⟨fun ⟨hmod, hinc⟩ => hy hmod hinc, hrecover, hverify, hseqEq⟩

/-- The issue of a word keeps the results, or executes a command with no fault pending. -/
theorem afterIssue_resultRegs (w : Word) (s : State) :
    resultRegs (afterIssue w s) = resultRegs s ∨
    (s.fault = 0 ∧ ∃ i, decodeWord w = .ok i ∧ afterIssue w s = effect i s) := by
  rcases afterIssue_cases w s with ⟨-, e⟩ | ⟨-, -, e⟩ | hexec
  · exact .inl (congrArg _ e)
  · exact .inl (e ▸ resultRegs_raise s _)
  · exact .inr hexec

/-- A write to a register other than CMD keeps the results, the soft reset apart. -/
theorem afterWriteReg_resultRegs {reg : Reg} {d : Word} (hcmd : reg ≠ .cmd)
    (hreset : ¬ (reg = .ctrl ∧ d.getLsbD 0 = true)) (s : State) :
    resultRegs (afterWriteReg reg d s) = resultRegs s := by
  cases reg with
  | cmd => exact absurd rfl hcmd
  | ctrl => rw [afterWriteReg_ctrl, if_neg fun hbit => hreset ⟨rfl, hbit⟩]
  | status | plen | y => exact resultRegs_raise s .badAccess
  | _ => rfl

/-- A transaction other than the soft reset keeps the results, or is the write to CMD that executes a
command with no fault pending. -/
theorem afterTransact_resultRegs {x : Transaction} (hreset : isResetWrite x ≠ true) (s : State) :
    resultRegs (afterTransact x s) = resultRegs s ∨
    (s.fault = 0 ∧ ∃ w i, x = .write 0x04 w ∧ decodeWord w = .ok i ∧
      afterTransact x s = effect i (s.setCmd w)) := by
  rcases afterTransact_cases x s with ⟨_, _, -, e⟩ | ⟨reg, d, rfl, e⟩ | ⟨_, -, e⟩ | ⟨_, -, e⟩ <;> rw [e]
  · exact .inl (resultRegs_raise s _)
  · by_cases hcmd : reg = .cmd
    · subst hcmd
      rw [afterWriteReg_cmd]
      rcases afterIssue_resultRegs d (s.setCmd d) with h | ⟨h0, i, hdecode, h⟩
      · exact .inl h
      · exact .inr ⟨h0, d, i, rfl, hdecode, h⟩
    · refine .inl (afterWriteReg_resultRegs hcmd ?_ s)
      rintro ⟨rfl, hbit⟩
      exact hreset (by simpa [isResetWrite, offsetOf] using hbit)
  · exact .inl (resultRegs_raise s .badAccess)
  · exact .inl rfl

/-- A transaction that records a fault keeps the results: it is the fault primitive, but for CMD and the
observation (R203). -/
theorem afterTransact_resultRegs_of_recorded {x : Transaction} {s : State} (h0 : s.fault = 0)
    (h : (afterTransact x s).fault ≠ 0) : resultRegs (afterTransact x s) = resultRegs s := by
  rcases afterTransact_of_recorded h0 h with ⟨w, c, -, e⟩ | ⟨_, _, -, e⟩ | ⟨_, -, e⟩ <;> rw [e]
  · exact resultRegs_raise (s.setCmd w) c
  · exact resultRegs_raise s _
  · exact resultRegs_raise s .badAccess

/-- Settles O28: the one transaction of the step keeps the five results, or executes a command, which
writes its own result only; and a recorded fault keeps them all. -/
theorem resultsStayUntilTheirCommandExecutes :
    Obligations.ResultsStayUntilTheirCommandExecutes := by
  intro s t hstep hreset
  obtain ⟨x, rest, hscript, rfl⟩ := step_next hstep
  have hrecorded := fun h0 h => (resultRegs_eq_iff s _).1
    (afterTransact_resultRegs_of_recorded (x := x) (s := s.setScript rest) h0 h)
  have hx : isResetWrite x ≠ true := fun hx => hreset ⟨x, rest, hscript, hx⟩
  rcases afterTransact_resultRegs hx (s.setScript rest) with h | ⟨h0, w, i, rfl, hdecode, e⟩
  · obtain ⟨hy, hplen, hvalid, hok, heq⟩ := (resultRegs_eq_iff s _).1 h
    exact ⟨fun _ => hy, fun _ => ⟨hplen, hvalid⟩, fun _ => hok, fun _ => heq, hrecorded⟩
  · have hother : ∀ is, ¬ executes s is → i ∉ is := fun _ hnot hi =>
      hnot ⟨h0, w, rest, i, hscript, hdecode, hi⟩
    obtain ⟨hy, hrecover, hok, heq⟩ := effect_results_frame i ((s.setScript rest).setCmd w)
    rw [← e] at hy hrecover hok heq
    exact ⟨fun h => hy (hother _ h), fun h => hrecover (hother _ h), fun h => hok (hother _ h),
      fun h => heq (hother _ h), hrecorded⟩

end Sys2Proof.Machine
end

section
/-! PROOFS. The family Other, the model's own choices: the end of the script (log entry 3) and the host's
side of a soft reset (log entry 6). -/

namespace Sys2Proof.Machine

/-- The step with no transaction left stops by name (R240). -/
theorem step_of_script_nil {s : State} (h : s.script = []) : step s = .fault .scriptEnded := by
  rcases step_cases s with ⟨-, hstop⟩ | ⟨x, rest, hscript, -⟩
  · exact hstop
  · exact absurd (h.symm.trans hscript) (List.cons_ne_nil x rest).symm

/-- Settles O9: the empty script is the one case in which the step performs no transaction. -/
theorem runEndsWithTheScript : Obligations.RunEndsWithTheScript := fun _ => step_of_script_nil rfl

/-- Settles O21: the step is the write to CTRL, and no register write, the soft reset among them, touches
the script or the observation. -/
theorem softResetKeepsHostSide : Obligations.SoftResetKeepsHostSide := fun s d rest _ =>
  ⟨_, step_write_reg .ctrl d s rest, afterWriteReg_host_fields .ctrl d _⟩

end Sys2Proof.Machine
end
